-- ==== Sys2Proof/Word.lean ====
section
/-! DEFINITION. The widths of the block's values (00_scope.md R16): 8, 16 and 32 bits, all unsigned. -/

namespace Sys2Proof

/-- 8 bits: `bmRequestType`, `bRequest`, an EP0Buffer byte, `CONFIG`, a descriptor class or sub-index (R16). -/
abbrev Byte := BitVec 8

/-- 16 bits: `wValue`, `wIndex`, `wLength` (R16). -/
abbrev Half := BitVec 16

/-- 32 bits: one of the two words `w0`, `w1` of a setup packet (R16). -/
abbrev Word := BitVec 32

/-- 64 bits: `pkt = w1 :: w0`, word 1 in the high half (30_encoding.md R81). -/
abbrev Packet := BitVec 64

end Sys2Proof
end

