-- ==== Sys2Proof/Syntax.lean ====
section
/-! DEFINITION. The instructions: one constructor per row of spec/opcode_table.json (30_encoding.md R86), and the
decoded form of a setup packet (R82, R83). A constructor keeps every field of the packet that its row does not fix,
the ignored ones too, so that no bit of an encoding is dropped (log entry 13). -/

namespace Sys2Proof

/-- Direction, `bmRequestType[7]` (R82). -/
inductive Dir where
  | hostToDevice
  | deviceToHost
  deriving DecidableEq, Repr

/-- Type, `bmRequestType[6:5]` (R82). -/
inductive ReqType where
  | standard
  | classRequest
  | vendor
  | reserved
  deriving DecidableEq, Repr

/-- Target, `bmRequestType[4:0]`: 0, 1, 2, and 3 to 31 alike (R82). -/
inductive Target where
  | device
  | interface
  | endpoint
  | other
  deriving DecidableEq, Repr

/-- The decoded setup packet, its fields as numbers (R83; 40_decoder.md R110). Not state: a local value of one step
(10_state.md R27). -/
structure SetupRequest where
  dir : BitVec 1
  type : BitVec 2
  target : BitVec 5
  bRequest : Byte
  wValue : Half
  wIndex : Half
  wLength : Half
  deriving DecidableEq, Repr

/-- The dispatch key (30_encoding.md R88; 42_dispatcher.md R141). -/
structure Key where
  type : ReqType
  target : Target
  dir : Dir
  bRequest : Byte
  deriving DecidableEq, Repr

/-- The control requests. `idx` is `wValue[7:0]`, `cls` is `wValue[15:8]` (R84). -/
inductive Instr where
  /-- GET_DESCRIPTOR.DEVICE (42_dispatcher.md R146) -/
  | getDescriptorDevice (idx : Byte) (wIndex wLength : Half)
  /-- GET_DESCRIPTOR.CONFIGURATION (R146) -/
  | getDescriptorConfiguration (idx : Byte) (wIndex wLength : Half)
  /-- GET_DESCRIPTOR.STRING (R146) -/
  | getDescriptorString (idx : Byte) (wIndex wLength : Half)
  /-- GET_DESCRIPTOR.BOS (R146) -/
  | getDescriptorBos (idx : Byte) (wIndex wLength : Half)
  /-- GET_DESCRIPTOR.OTHER: any class code but the four (R146) -/
  | getDescriptorOther (cls idx : Byte) (wIndex wLength : Half)
  /-- GET_CONFIGURATION (R149) -/
  | getConfiguration (wValue wIndex wLength : Half)
  /-- GET_STATUS.DEV (R150) -/
  | getStatusDev (wValue wIndex wLength : Half)
  /-- GET_STATUS.IF (R151) -/
  | getStatusIf (wValue wIndex wLength : Half)
  /-- GET_STATUS.EP (R152) -/
  | getStatusEp (wValue wIndex wLength : Half)
  /-- SET_FEATURE (R153) -/
  | setFeature (wValue wIndex wLength : Half)
  /-- SET_SEL (R154) -/
  | setSel (wValue wIndex wLength : Half)
  /-- SET_ISOC_DELAY (R155) -/
  | setIsocDelay (wValue wIndex wLength : Half)
  /-- SET_CONFIGURATION, `wValue = CONFIG_VALID` (43_configuration.md R170) -/
  | setConfiguration (wIndex wLength : Half)
  /-- MS_COMPAT_ID, `wIndex = MS_COMPAT_ID_INDEX` (44_vendor_channel.md R181) -/
  | msCompatId (wValue wLength : Half)
  /-- MS_EXT_PROPS, `wIndex = MS_EXT_PROP_INDEX` (R182) -/
  | msExtProps (wValue wLength : Half)
  /-- VENDOR_READ (R183) -/
  | vendorRead (wValue wIndex wLength : Half)
  /-- VENDOR_WRITE (R184, R185) -/
  | vendorWrite (wValue wIndex wLength : Half)
  /-- REJECT_DEFAULT: every packet no other row matches (42_dispatcher.md R156) -/
  | rejectDefault (bmRequestType bRequest : Byte) (wValue wIndex wLength : Half)
  deriving DecidableEq, Repr

/-- Why a list of bytes is no setup packet: it has fewer than the 8 bytes every packet has (30_encoding.md R80).
It is a fact about lists of bytes; the block's own interface delivers two whole words and never meets it (R36, R92). -/
inductive DecodeReject where
  | fewerThanEightBytes
  deriving DecidableEq, Repr

end Sys2Proof
end

