-- ==== Sys2Proof/Machine/Environment.lean ====
section
/-! DEFINITION. The block's boundary as data: the input events, the oracle's answers, the environment calls with
their arguments and answers, and the outcome of a setup step (10_state.md section 10). -/

namespace Sys2Proof.Machine

/-- The negotiated link speed, exactly three values (00_scope.md R10, 10_state.md R38). -/
inductive Speed where
  | high
  | super
  | unknown
  deriving DecidableEq, Repr, Inhabited

/-- What the transport reports of a transfer (10_state.md R40, R41, R45). -/
inductive CallResult where
  | ok
  | fail
  deriving DecidableEq, Repr, Inhabited

/-- The kind of a bus event: `Reset`, or the catch-all `Other` (10_state.md R37). -/
inductive BusKind where
  | reset
  | other
  deriving DecidableEq, Repr

/-- An input event: a setup packet (R36) or a bus event with auxiliary data that no rule reads (R37).
DESIGN CHOICE (log entry 11): the auxiliary data is a number; its form is open in the spec. -/
inductive Event where
  | setup (w0 w1 : Word)
  | bus (kind : BusKind) (aux : Nat)
  deriving DecidableEq, Repr

/-- The oracle answers of ONE step (R35): nothing constrains them. No step makes two calls of one kind
(42_dispatcher.md R158), so one answer of each kind is one entry per call (log entry 2). -/
structure Answers where
  /-- answer of `queryLinkSpeed` (R38) -/
  speed : Speed
  /-- answer of `queryEndpointStallState` (R39) -/
  stalled : Bool
  /-- result of `sendResponse` (R40) -/
  send : CallResult
  /-- result of `acknowledge` (R41) -/
  ack : CallResult
  /-- result of `receiveData` (R45) -/
  receive : CallResult
  /-- the bytes the host has for an OUT data stage, first byte first (R45) -/
  received : List Byte
  deriving DecidableEq, Repr, Inhabited

/-- One input of a run: an event and the answers the environment gives while it is served. -/
structure Input where
  event : Event
  answers : Answers
  deriving DecidableEq, Repr

/-- An environment call with its arguments and its answer, as a trace shows it (10_state.md R38 to R45, R47). -/
inductive EnvCall where
  | queryLinkSpeed (answer : Speed)
  | queryEndpointStallState (endpoint : Half) (answer : Bool)
  | sendResponse (bytes : List Byte) (result : CallResult)
  | acknowledge (result : CallResult)
  | reject
  | notifyApplicationStart
  | notifyApplicationStop
  | disableLowPower
  | receiveData (n : Nat) (result : CallResult) (data : List Byte)
  deriving DecidableEq, Repr

/-- Why a request was rejected (60_exceptions.md R211): a label of the model, never on the wire (R212). -/
inductive RejectCause where
  | unmatched
  | unsupported
  | lookupMiss
  | transport
  deriving DecidableEq, Repr

/-- The outcome of a setup step (10_state.md R46). The cause is visible to the model only (R212). -/
inductive SetupOutcome where
  | respond (bytes : List Byte)
  | acknowledge
  | reject (cause : RejectCause)
  deriving DecidableEq, Repr

end Sys2Proof.Machine
end

