-- ==== Sys2Proof/Machine/Parameters.lean ====
section
/-! DEFINITION. The implementation parameters (00_scope.md R8). A model takes them as arguments (92_eei_decisions.md,
"Open parameters a model takes as arguments"), so every definition that reads one takes a `Params`, and a state carries
the `Params` of its run. `ROM` has its own field of State. The hardware's own values stand once, in `Config.params`. -/

namespace Sys2Proof

/-- The parameters of R8 but for `ROM`, one field each. -/
structure ParamTable where
  /-- `EP0BUF_CAP`: capacity of EP0Buffer in bytes: how many registers `EP0BUF` has (R21), the largest `RXLEN` (R26), the
  most a vendor request reads or receives (R183, R184) -/
  ep0bufCap : Nat
  /-- `VENDOR_REQ_DATA`: bRequest of the vendor data channel -/
  vendorReqData : Byte
  /-- `MS_VENDOR_CODE`: bRequest of both Microsoft requests -/
  msVendorCode : Byte
  /-- `MS_OS_STRING_INDEX` -/
  msOsStringIndex : Byte
  /-- `MS_COMPAT_ID_INDEX`, compared with wIndex -/
  msCompatIdIndex : Half
  /-- `MS_EXT_PROP_INDEX`, compared with wIndex -/
  msExtPropIndex : Half
  /-- `CONFIG_VALID`: the one configuration number SET_CONFIGURATION accepts -/
  configValid : Half
  /-- `USB_VID`; it lives inside the device descriptor blobs, no rule of the block reads it -/
  usbVid : Half
  /-- `USB_PID`; as `USB_VID` -/
  usbPid : Half
  /-- `RQ_GET_STATUS` -/
  rqGetStatus : Byte
  /-- `RQ_SET_FEATURE` -/
  rqSetFeature : Byte
  /-- `RQ_GET_DESCRIPTOR` -/
  rqGetDescriptor : Byte
  /-- `RQ_GET_CONFIGURATION` -/
  rqGetConfiguration : Byte
  /-- `RQ_SET_CONFIGURATION` -/
  rqSetConfiguration : Byte
  /-- `RQ_SET_SEL` -/
  rqSetSel : Byte
  /-- `RQ_SET_ISOC_DELAY` -/
  rqSetIsocDelay : Byte
  /-- `DT_DEVICE` -/
  dtDevice : Byte
  /-- `DT_CONFIGURATION` -/
  dtConfiguration : Byte
  /-- `DT_STRING` -/
  dtString : Byte
  /-- `DT_BOS` -/
  dtBos : Byte
  /-- `STR_LANGID_INDEX` -/
  strLangidIndex : Byte
  /-- `STR_MANUFACTURER_INDEX` -/
  strManufacturerIndex : Byte
  /-- `STR_PRODUCT_INDEX` -/
  strProductIndex : Byte
  /-- `STR_SERIAL_INDEX` -/
  strSerialIndex : Byte
  /-- `GET_STATUS_LEN`: bytes of a GET_STATUS reply -/
  getStatusLen : Nat
  /-- `GET_CONFIGURATION_LEN`: bytes of a GET_CONFIGURATION reply -/
  getConfigurationLen : Nat
  /-- `SUBINDEX_STRICT`: Device, Configuration and BOS lookups hit only at sub-index 0 (41_descriptor_store.md R127) -/
  subindexStrict : Bool
  /-- `TRACE_ALL_REQUESTS`: it changes no state, no outcome and no environment call (R13), so no definition reads it -/
  traceAllRequests : Bool
  /-- `HOST_TIMEOUT_MS`: informative, no rule depends on it (70_reset_and_hazards.md R259) -/
  hostTimeoutMs : Nat
  deriving DecidableEq, Repr

/-- The parameters name different things differently, as the disjoint rows of 30_encoding.md R91 and the keys of
41_descriptor_store.md R124 need, the buffer has the two registers a status reply is staged in, and a
reply is no longer than what is staged for it (20_memory.md R56). DESIGN CHOICE (log entry 20). -/
def ParamTable.wf (p : ParamTable) : Bool :=
  decide [p.rqGetStatus, p.rqSetFeature, p.rqGetDescriptor, p.rqGetConfiguration, p.rqSetConfiguration, p.rqSetSel,
    p.rqSetIsocDelay].Nodup
  && decide [p.dtDevice, p.dtConfiguration, p.dtString, p.dtBos].Nodup
  && decide [p.strLangidIndex, p.strManufacturerIndex, p.strProductIndex, p.strSerialIndex, p.msOsStringIndex].Nodup
  && decide (p.msVendorCode ≠ p.vendorReqData)
  && decide (2 ≤ p.ep0bufCap)
  && decide (p.getStatusLen ≤ 2)
  && decide (p.getConfigurationLen ≤ 1)

/-- A table of parameters the model accepts: a well-formed one (log entry 20). -/
structure Params extends ParamTable where
  wf : toParamTable.wf = true := by decide
  deriving DecidableEq, Repr

namespace Config

/-- `TRACE_ALL_REQUESTS`, enabled or disabled, open (R8; log entry 14). -/
opaque traceAllRequests : Bool

/-- The values this hardware takes (R8). The literals of the source are unaudited. PRESUMED (log entry 8): the request
codes and class codes are from general knowledge, as the spec's G1, G2, D3 and D4 say; `SUBINDEX_STRICT` is the spec's
decision D7 (log entry 9). -/
def params : Params where
  ep0bufCap := 64
  vendorReqData := 0xFF
  msVendorCode := 0xAE
  msOsStringIndex := 0xEE
  msCompatIdIndex := 0x0004
  msExtPropIndex := 0x0005
  configValid := 0x0001
  usbVid := 0x04B4
  usbPid := 0x0101
  rqGetStatus := 0x00
  rqSetFeature := 0x03
  rqGetDescriptor := 0x06
  rqGetConfiguration := 0x08
  rqSetConfiguration := 0x09
  rqSetSel := 0x30
  rqSetIsocDelay := 0x31
  dtDevice := 0x01
  dtConfiguration := 0x02
  dtString := 0x03
  dtBos := 0x0F
  strLangidIndex := 0
  strManufacturerIndex := 1
  strProductIndex := 2
  strSerialIndex := 3
  getStatusLen := 2
  getConfigurationLen := 1
  subindexStrict := true
  traceAllRequests := traceAllRequests
  hostTimeoutMs := 1000

end Config

end Sys2Proof
end

