-- ==== Sys2Proof/Machine/Rom.lean ====
section
/-! DEFINITION. The descriptor table `ROM`: its twelve slots, their kinds, the declared length of a blob, and what
makes a table well formed (41_descriptor_store.md sections 1 and 2). -/

namespace Sys2Proof.Machine

/-- The twelve named slots (R121). -/
inductive Slot where
  | devHs
  | devSs
  | cfgHs
  | cfgSs
  | bos
  | strLangid
  | strManufacturer
  | strProduct
  | strSerial
  | strMsos
  | msCompatId
  | msExtProps
  deriving DecidableEq, Repr

/-- How a slot's blob states its length (R121, third column). -/
inductive SlotKind where
  | single
  | composite
  | storedLength
  deriving DecidableEq, Repr

/-- Which Microsoft descriptor `LOOKUP_MS` is asked for (R130). -/
inductive MsDescriptor where
  | compatId
  | extProps
  deriving DecidableEq, Repr

/-- `kind(slot)` (R121). -/
def Slot.kind : Slot → SlotKind
  | .devHs | .devSs => .single
  | .cfgHs | .cfgSs | .bos => .composite
  | .strLangid | .strManufacturer | .strProduct | .strSerial | .strMsos => .single
  | .msCompatId | .msExtProps => .storedLength

/-- An immutable byte sequence, byte 0 first. -/
abbrev Blob := List Byte

/-- `DECLEN(slot, blob)` (R123): the first byte, bytes 2 and 3 little-endian (20_memory.md R55), or the stored length.
The default of `getD` is read only where the length bytes are absent, which no well-formed table allows (R126). -/
def declLen (s : Slot) (b : Blob) : Nat :=
  match s.kind with
  | .single => (b.getD 0 0).toNat
  | .composite => (b.getD 2 0).toNat + 256 * (b.getD 3 0).toNat
  | .storedLength => b.length

/-- What each slot holds: a blob or nothing (R121). -/
structure RomData where
  devHs : Option Blob := none
  devSs : Option Blob := none
  cfgHs : Option Blob := none
  cfgSs : Option Blob := none
  bos : Option Blob := none
  strLangid : Option Blob := none
  strManufacturer : Option Blob := none
  strProduct : Option Blob := none
  strSerial : Option Blob := none
  strMsos : Option Blob := none
  msCompatId : Option Blob := none
  msExtProps : Option Blob := none
  deriving DecidableEq, Repr, Inhabited

/-- `ROM[slot]`. -/
def RomData.slot (r : RomData) : Slot → Option Blob
  | .devHs => r.devHs
  | .devSs => r.devSs
  | .cfgHs => r.cfgHs
  | .cfgSs => r.cfgSs
  | .bos => r.bos
  | .strLangid => r.strLangid
  | .strManufacturer => r.strManufacturer
  | .strProduct => r.strProduct
  | .strSerial => r.strSerial
  | .strMsos => r.strMsos
  | .msCompatId => r.msCompatId
  | .msExtProps => r.msExtProps

/-- The fewest bytes a blob needs so that its length bytes exist (R126). -/
def SlotKind.minLength : SlotKind → Nat
  | .single => 1
  | .composite => 4
  | .storedLength => 0

/-- A filled slot honours the layout contract (R126), and its blob has at most 65535 bytes (20_memory.md R50). -/
def blobWf (s : Slot) (b : Blob) : Bool :=
  decide (s.kind.minLength ≤ b.length) && decide (declLen s b ≤ b.length) && decide (b.length ≤ 65535)

/-- All twelve slots, in the order of R121. -/
def Slot.all : List Slot :=
  [.devHs, .devSs, .cfgHs, .cfgSs, .bos, .strLangid, .strManufacturer, .strProduct, .strSerial, .strMsos,
    .msCompatId, .msExtProps]

/-- Every filled slot is well formed (R126). -/
def RomData.wf (r : RomData) : Bool :=
  Slot.all.all fun s => (r.slot s).all (blobWf s)

/-- A descriptor table the model accepts: a well-formed one (R126). An ill-formed table is refused in the sense of
93_implementation_defined.md U6: no `Rom`, hence no state, holds one (log entry 7). -/
structure Rom where
  data : RomData := {}
  wf : data.wf = true := by decide
  deriving DecidableEq, Repr, Inhabited

/-- Every slot holds a blob. -/
def RomData.full (r : RomData) : Bool := Slot.all.all fun s => (r.slot s).isSome

/-- The smallest blob of each slot that the layout contract allows. -/
def RomData.smallest : RomData where
  devHs := some [1]
  devSs := some [1]
  cfgHs := some [0, 0, 4, 0]
  cfgSs := some [0, 0, 4, 0]
  bos := some [0, 0, 4, 0]
  strLangid := some [1]
  strManufacturer := some [1]
  strProduct := some [1]
  strSerial := some [1]
  strMsos := some [1]
  msCompatId := some []
  msExtProps := some []

/-- A descriptor table as the observed device has one: well formed, all twelve slots filled (R121). The defaults only
show that there is such a table; no definition reads them. -/
structure FullRom where
  rom : Rom := { data := .smallest }
  full : rom.data.full = true := by decide
  deriving DecidableEq, Repr, Inhabited

/-- `ROM[slot]` of a well-formed table. -/
def Rom.slot (r : Rom) (s : Slot) : Option Blob := r.data.slot s

end Sys2Proof.Machine
end

