-- ==== Sys2Proof/Config.lean ====
section
/-! DEFINITION. What is fixed for the machine: the parameters of 00_scope.md R8 (Machine/Parameters.lean) and, here, the
other open constants: the values the spec leaves free, without a body, so that nothing can be proved of them. -/

namespace Sys2Proof.Config

open Sys2Proof.Machine

/-! ### Open constants: nothing can be proved of their values -/

/-- The descriptor table supplied from outside, its twelve slots filled, their contents open (R8, 10_state.md R30,
41_descriptor_store.md R121; log entry 7). -/
opaque rom : FullRom

/-- The launch value of `EP0BUF[i]`: arbitrary, fixed for the run (10_state.md R31; log entry 4). -/
opaque launchByte : Nat → Byte

/-- The launch value of `RXLEN`, cut at the capacity where it is used (10_state.md R26, R31; log entry 4). -/
opaque launchRxlen : Nat

/-- The answers that stand in the state before any event has brought its own (log entry 5). -/
opaque launchAnswers : Answers

/-- What byte `i` of the window holds after a failed receive (44_vendor_channel.md R185), for the draw number, the
buffer before, the number of bytes asked for, and the bytes that arrived (log entry 6). -/
opaque failedReceiveByte (draw : Nat) (before : List Byte) (n : Nat) (arrived : List Byte) (i : Nat) : Byte

/-- What `RXLEN` holds after a failed receive (44_vendor_channel.md R185), for the same arguments, cut at the capacity
where it is used (10_state.md R26; log entry 6). -/
opaque failedReceiveLen (draw : Nat) (before : List Byte) (n : Nat) (arrived : List Byte) : Nat

end Sys2Proof.Config
end

