-- ==== Sys2Proof/WellFormed.lean ====
section
/-! DEFINITION. Which terms of Instr stand for a packet, under the parameters `p`: GET_DESCRIPTOR.OTHER carries none of
the four class codes, and REJECT_DEFAULT carries a packet that no other row lists (30_encoding.md R86). -/

namespace Sys2Proof

/-- The class codes with a row of their own (R86). -/
def knownClass (p : Params) (cls : Byte) : Bool :=
  cls == p.dtDevice || cls == p.dtConfiguration || cls == p.dtString || cls == p.dtBos

/-- Some row of R86 other than REJECT_DEFAULT lists this packet: by `bmRequestType` and `bRequest`, and for the three
guarded rows by `wValue` or `wIndex` on their full width (R90). -/
def listed (p : Params) (bmRequestType bRequest : Byte) (wValue wIndex : Half) : Bool :=
  (bmRequestType == 0x80 && bRequest == p.rqGetDescriptor)
  || (bmRequestType == 0x80 && bRequest == p.rqGetConfiguration)
  || (bmRequestType == 0x80 && bRequest == p.rqGetStatus)
  || (bmRequestType == 0x81 && bRequest == p.rqGetStatus)
  || (bmRequestType == 0x82 && bRequest == p.rqGetStatus)
  || (bmRequestType == 0x00 && bRequest == p.rqSetFeature)
  || (bmRequestType == 0x00 && bRequest == p.rqSetSel)
  || (bmRequestType == 0x00 && bRequest == p.rqSetIsocDelay)
  || (bmRequestType == 0x00 && bRequest == p.rqSetConfiguration && wValue == p.configValid)
  || (bmRequestType == 0xC0 && bRequest == p.msVendorCode && wIndex == p.msCompatIdIndex)
  || (bmRequestType == 0xC1 && bRequest == p.msVendorCode && wIndex == p.msExtPropIndex)
  || (bmRequestType == 0xC1 && bRequest == p.vendorReqData)
  || (bmRequestType == 0x41 && bRequest == p.vendorReqData)

/-- The term stands for a packet. -/
def Instr.wf (p : Params) : Instr → Bool
  | .getDescriptorDevice _ _ _ => true
  | .getDescriptorConfiguration _ _ _ => true
  | .getDescriptorString _ _ _ => true
  | .getDescriptorBos _ _ _ => true
  | .getDescriptorOther cls _ _ _ => !knownClass p cls
  | .getConfiguration _ _ _ => true
  | .getStatusDev _ _ _ => true
  | .getStatusIf _ _ _ => true
  | .getStatusEp _ _ _ => true
  | .setFeature _ _ _ => true
  | .setSel _ _ _ => true
  | .setIsocDelay _ _ _ => true
  | .setConfiguration _ _ => true
  | .msCompatId _ _ => true
  | .msExtProps _ _ => true
  | .vendorRead _ _ _ => true
  | .vendorWrite _ _ _ => true
  | .rejectDefault bm rq v ix _ => !listed p bm rq v ix

end Sys2Proof
end

