-- ==== Sys2Proof/Decode.lean ====
section
/-! DEFINITION. The decoder: two words to a request (40_decoder.md R110), a request to its row (42_dispatcher.md R141),
a list of bytes to an instruction; then the encoder (30_encoding.md R98), all under the parameters `p`; then the opcode
table as match and mask rows (R87). -/

namespace Sys2Proof

/-! ### The Setup Packet Decoder -/

/-- `DECODE(w0, w1)` (R110): a pure, total function. -/
def decodeSetup (w0 w1 : Word) : SetupRequest where
  dir := w0.extractLsb' 7 1
  type := w0.extractLsb' 5 2
  target := w0.extractLsb' 0 5
  bRequest := w0.extractLsb' 8 8
  wValue := w0.extractLsb' 16 16
  wIndex := w1.extractLsb' 0 16
  wLength := w1.extractLsb' 16 16

/-- The name of a direction bit (R82). -/
def Dir.ofBits (d : BitVec 1) : Dir :=
  if d = 1 then .deviceToHost else .hostToDevice

/-- The name of a type value (R82; 3 is Reserved by the spec's decision D5). -/
def ReqType.ofBits (t : BitVec 2) : ReqType :=
  if t = 0 then .standard else if t = 1 then .classRequest else if t = 2 then .vendor else .reserved

/-- The name of a target value (R82; 3 to 31 are Other by the spec's decision D5). -/
def Target.ofBits (t : BitVec 5) : Target :=
  if t = 0 then .device else if t = 1 then .interface else if t = 2 then .endpoint else .other

/-- The dispatch key of a request (R88, R141). -/
def SetupRequest.key (r : SetupRequest) : Key :=
  ⟨.ofBits r.type, .ofBits r.target, .ofBits r.dir, r.bRequest⟩

/-- `bmRequestType = 128 * dir + 32 * type + target` (R98). -/
def SetupRequest.bmRequestType (r : SetupRequest) : Byte :=
  BitVec.ofNat 8 (128 * r.dir.toNat + 32 * r.type.toNat + r.target.toNat)

/-- `cls = wValue[15:8]` (R84). -/
def classOf (wValue : Half) : Byte := wValue.extractLsb' 8 8

/-- `idx = wValue[7:0]` (R84). -/
def subIndexOf (wValue : Half) : Byte := wValue.extractLsb' 0 8

/-! ### The match -/

/-- The GET_DESCRIPTOR row of a class code (R86: five rows with one semantics rule). -/
def getDescriptorRow (p : Params) (r : SetupRequest) : Instr :=
  let cls := classOf r.wValue
  let idx := subIndexOf r.wValue
  if cls = p.dtDevice then .getDescriptorDevice idx r.wIndex r.wLength
  else if cls = p.dtConfiguration then .getDescriptorConfiguration idx r.wIndex r.wLength
  else if cls = p.dtString then .getDescriptorString idx r.wIndex r.wLength
  else if cls = p.dtBos then .getDescriptorBos idx r.wIndex r.wLength
  else .getDescriptorOther cls idx r.wIndex r.wLength

/-- `MATCH(req)` (R141): a function of the request alone. The last line is `NONE`, which R140 sends to REJECT_DEFAULT. -/
def matchRequest (p : Params) (r : SetupRequest) : Instr :=
  if r.key = ⟨.standard, .device, .deviceToHost, p.rqGetDescriptor⟩ then getDescriptorRow p r
  else if r.key = ⟨.standard, .device, .deviceToHost, p.rqGetConfiguration⟩ then
    .getConfiguration r.wValue r.wIndex r.wLength
  else if r.key = ⟨.standard, .device, .deviceToHost, p.rqGetStatus⟩ then
    .getStatusDev r.wValue r.wIndex r.wLength
  else if r.key = ⟨.standard, .interface, .deviceToHost, p.rqGetStatus⟩ then
    .getStatusIf r.wValue r.wIndex r.wLength
  else if r.key = ⟨.standard, .endpoint, .deviceToHost, p.rqGetStatus⟩ then
    .getStatusEp r.wValue r.wIndex r.wLength
  else if r.key = ⟨.standard, .device, .hostToDevice, p.rqSetFeature⟩ then
    .setFeature r.wValue r.wIndex r.wLength
  else if r.key = ⟨.standard, .device, .hostToDevice, p.rqSetSel⟩ then
    .setSel r.wValue r.wIndex r.wLength
  else if r.key = ⟨.standard, .device, .hostToDevice, p.rqSetIsocDelay⟩ then
    .setIsocDelay r.wValue r.wIndex r.wLength
  else if r.key = ⟨.standard, .device, .hostToDevice, p.rqSetConfiguration⟩ ∧ r.wValue = p.configValid then
    .setConfiguration r.wIndex r.wLength
  else if r.key = ⟨.vendor, .device, .deviceToHost, p.msVendorCode⟩ ∧ r.wIndex = p.msCompatIdIndex then
    .msCompatId r.wValue r.wLength
  else if r.key = ⟨.vendor, .interface, .deviceToHost, p.msVendorCode⟩ ∧ r.wIndex = p.msExtPropIndex then
    .msExtProps r.wValue r.wLength
  else if r.key = ⟨.vendor, .interface, .deviceToHost, p.vendorReqData⟩ then
    .vendorRead r.wValue r.wIndex r.wLength
  else if r.key = ⟨.vendor, .interface, .hostToDevice, p.vendorReqData⟩ then
    .vendorWrite r.wValue r.wIndex r.wLength
  else .rejectDefault r.bmRequestType r.bRequest r.wValue r.wIndex r.wLength

/-- The instruction a setup packet is: `MATCH(DECODE(w0, w1))` (R140). Total: there is no illegal encoding (R92). -/
def decodeWords (p : Params) (w0 w1 : Word) : Instr := matchRequest p (decodeSetup w0 w1)

/-! ### Bytes -/

/-- The four bytes of a word in wire order, low byte first (20_memory.md R51, R54). -/
def wordBytes (w : Word) : List Byte :=
  [w.extractLsb' 0 8, w.extractLsb' 8 8, w.extractLsb' 16 8, w.extractLsb' 24 8]

/-- The word of four bytes in wire order (R51, R54). -/
def wordOfBytes (b0 b1 b2 b3 : Byte) : Word :=
  BitVec.ofNat 32 (b0.toNat + 256 * b1.toNat + 65536 * b2.toNat + 16777216 * b3.toNat)

/-- The instruction at the head of a list of wire bytes, and the bytes after it; every packet is 8 bytes (R80). -/
def decode (p : Params) : List Byte → Except DecodeReject (Instr × List Byte)
  | b0 :: b1 :: b2 :: b3 :: b4 :: b5 :: b6 :: b7 :: rest =>
    .ok (decodeWords p (wordOfBytes b0 b1 b2 b3) (wordOfBytes b4 b5 b6 b7), rest)
  | _ => .error .fewerThanEightBytes

/-! ### The encoder -/

/-- The fields of a packet as R98 takes them. -/
def encodeFields (bmRequestType bRequest : Byte) (wValue wIndex wLength : Half) : Word × Word :=
  (BitVec.ofNat 32 (bmRequestType.toNat + 256 * bRequest.toNat + 65536 * wValue.toNat),
    BitVec.ofNat 32 (wIndex.toNat + 65536 * wLength.toNat))

/-- `wValue` of a class code and a sub-index: `cls << 8 or idx` (R96). -/
def valueOf (cls idx : Byte) : Half := BitVec.ofNat 16 (256 * cls.toNat + idx.toNat)

/-- The words of an instruction, from the request map (R86) and the packing of R98. -/
def encode (p : Params) : Instr → Word × Word
  | .getDescriptorDevice idx wi wl => encodeFields 0x80 p.rqGetDescriptor (valueOf p.dtDevice idx) wi wl
  | .getDescriptorConfiguration idx wi wl =>
    encodeFields 0x80 p.rqGetDescriptor (valueOf p.dtConfiguration idx) wi wl
  | .getDescriptorString idx wi wl => encodeFields 0x80 p.rqGetDescriptor (valueOf p.dtString idx) wi wl
  | .getDescriptorBos idx wi wl => encodeFields 0x80 p.rqGetDescriptor (valueOf p.dtBos idx) wi wl
  | .getDescriptorOther cls idx wi wl => encodeFields 0x80 p.rqGetDescriptor (valueOf cls idx) wi wl
  | .getConfiguration wv wi wl => encodeFields 0x80 p.rqGetConfiguration wv wi wl
  | .getStatusDev wv wi wl => encodeFields 0x80 p.rqGetStatus wv wi wl
  | .getStatusIf wv wi wl => encodeFields 0x81 p.rqGetStatus wv wi wl
  | .getStatusEp wv wi wl => encodeFields 0x82 p.rqGetStatus wv wi wl
  | .setFeature wv wi wl => encodeFields 0x00 p.rqSetFeature wv wi wl
  | .setSel wv wi wl => encodeFields 0x00 p.rqSetSel wv wi wl
  | .setIsocDelay wv wi wl => encodeFields 0x00 p.rqSetIsocDelay wv wi wl
  | .setConfiguration wi wl => encodeFields 0x00 p.rqSetConfiguration p.configValid wi wl
  | .msCompatId wv wl => encodeFields 0xC0 p.msVendorCode wv p.msCompatIdIndex wl
  | .msExtProps wv wl => encodeFields 0xC1 p.msVendorCode wv p.msExtPropIndex wl
  | .vendorRead wv wi wl => encodeFields 0xC1 p.vendorReqData wv wi wl
  | .vendorWrite wv wi wl => encodeFields 0x41 p.vendorReqData wv wi wl
  | .rejectDefault bm rq wv wi wl => encodeFields bm rq wv wi wl

/-- The 8 wire bytes of a pair of words (R51). -/
def packetBytes (p : Word × Word) : List Byte := wordBytes p.1 ++ wordBytes p.2

/-! ### The opcode table -/

/-- `pkt = w1 :: w0` (R81). -/
def packetOf (w0 w1 : Word) : Packet := BitVec.ofNat 64 (w0.toNat + 4294967296 * w1.toNat)

/-- The mnemonic of an instruction's row. -/
def Instr.mnemonic : Instr → String
  | .getDescriptorDevice _ _ _ => "GET_DESCRIPTOR.DEVICE"
  | .getDescriptorConfiguration _ _ _ => "GET_DESCRIPTOR.CONFIGURATION"
  | .getDescriptorString _ _ _ => "GET_DESCRIPTOR.STRING"
  | .getDescriptorBos _ _ _ => "GET_DESCRIPTOR.BOS"
  | .getDescriptorOther _ _ _ _ => "GET_DESCRIPTOR.OTHER"
  | .getConfiguration _ _ _ => "GET_CONFIGURATION"
  | .getStatusDev _ _ _ => "GET_STATUS.DEV"
  | .getStatusIf _ _ _ => "GET_STATUS.IF"
  | .getStatusEp _ _ _ => "GET_STATUS.EP"
  | .setFeature _ _ _ => "SET_FEATURE"
  | .setSel _ _ _ => "SET_SEL"
  | .setIsocDelay _ _ _ => "SET_ISOC_DELAY"
  | .setConfiguration _ _ => "SET_CONFIGURATION"
  | .msCompatId _ _ => "MS_COMPAT_ID"
  | .msExtProps _ _ => "MS_EXT_PROPS"
  | .vendorRead _ _ _ => "VENDOR_READ"
  | .vendorWrite _ _ _ => "VENDOR_WRITE"
  | .rejectDefault _ _ _ _ _ => "REJECT_DEFAULT"

/-- One row of opcode_table.json (R87). -/
structure OpcodeRow where
  mnemonic : String
  pattern : Packet
  mask : Packet
  deriving DecidableEq, Repr

/-- A packet selects a row when `pkt AND mask = match` (R87). -/
def OpcodeRow.selects (row : OpcodeRow) (pkt : Packet) : Bool := pkt &&& row.mask == row.pattern

/-- The sixteen rows of the table without `"priority": "last"` (R87), in its order: the rows of the
values in `Config.params`. -/
def opcodeRows : List OpcodeRow :=
  [⟨"GET_DESCRIPTOR.DEVICE", 0x0000000001000680, 0x00000000FF00FFFF⟩,
    ⟨"GET_DESCRIPTOR.CONFIGURATION", 0x0000000002000680, 0x00000000FF00FFFF⟩,
    ⟨"GET_DESCRIPTOR.STRING", 0x0000000003000680, 0x00000000FF00FFFF⟩,
    ⟨"GET_DESCRIPTOR.BOS", 0x000000000F000680, 0x00000000FF00FFFF⟩,
    ⟨"GET_CONFIGURATION", 0x0000000000000880, 0x000000000000FFFF⟩,
    ⟨"GET_STATUS.DEV", 0x0000000000000080, 0x000000000000FFFF⟩,
    ⟨"GET_STATUS.IF", 0x0000000000000081, 0x000000000000FFFF⟩,
    ⟨"GET_STATUS.EP", 0x0000000000000082, 0x000000000000FFFF⟩,
    ⟨"SET_FEATURE", 0x0000000000000300, 0x000000000000FFFF⟩,
    ⟨"SET_SEL", 0x0000000000003000, 0x000000000000FFFF⟩,
    ⟨"SET_ISOC_DELAY", 0x0000000000003100, 0x000000000000FFFF⟩,
    ⟨"SET_CONFIGURATION", 0x0000000000010900, 0x00000000FFFFFFFF⟩,
    ⟨"MS_COMPAT_ID", 0x000000040000AEC0, 0x0000FFFF0000FFFF⟩,
    ⟨"MS_EXT_PROPS", 0x000000050000AEC1, 0x0000FFFF0000FFFF⟩,
    ⟨"VENDOR_READ", 0x000000000000FFC1, 0x000000000000FFFF⟩,
    ⟨"VENDOR_WRITE", 0x000000000000FF41, 0x000000000000FFFF⟩]

/-- The row GET_DESCRIPTOR.OTHER; it applies when none of `opcodeRows` does (R87). -/
def otherClassRow : OpcodeRow := ⟨"GET_DESCRIPTOR.OTHER", 0x0000000000000680, 0x000000000000FFFF⟩

/-- The row REJECT_DEFAULT; it applies when no other row does (R87). -/
def rejectRow : OpcodeRow := ⟨"REJECT_DEFAULT", 0x0000000000000000, 0x0000000000000000⟩

/-- The row a packet selects by match and mask, the two rows with priority last tried last (R87). -/
def tableRow (pkt : Packet) : OpcodeRow :=
  ((opcodeRows ++ [otherClassRow]).find? (·.selects pkt)).getD rejectRow

/-! ### A table word -/

/-- The two words of a packet given as a number whose bit 0 is the least significant bit of the first byte; the bits
from `nbits` up are zero. -/
def wordsOfTableWord (nbits w : Nat) : Word × Word :=
  (BitVec.ofNat 32 (w % 2 ^ nbits), BitVec.ofNat 32 (w % 2 ^ nbits / 4294967296))

/-- The instruction the decoder reads from the packet's 8 wire bytes, under the hardware's own parameters. -/
def decodeTableWord (nbits w : Nat) : Option Instr :=
  match decode Config.params (packetBytes (wordsOfTableWord nbits w)) with
  | .ok (i, _) => some i
  | .error _ => none

end Sys2Proof
end

