-- ==== Sys2Proof/Machine/State.lean ====
section
/-! DEFINITION. The machine's state (10_state.md R20) with the environment's part of a run and its observation, the
reasons to stop (there are none but a missing meaning), and the state after power-on (R31). -/

namespace Sys2Proof.Machine

/-- State of the EP0 block and of a run of it. The block's own state is `ep0buf`, `config` and `rxlen` (R20); the rest
is the parameters of the run (00_scope.md R8) and its `ROM` (R30), the environment's inputs (R22, R35), and what an
observer sees (R47). -/
structure State where
  /-- `EP0BUF`, the shared buffer, byte 0 first: `EP0BUF_CAP` registers (R21, `State.Sized`) -/
  ep0buf : List Byte
  /-- `CONFIG`, the configuration register (R24) -/
  config : Byte
  /-- `RXLEN`, the received length of the last VENDOR_WRITE, 0 to `EP0BUF_CAP` (R26, `State.Sized`) -/
  rxlen : Nat
  /-- the implementation parameters, immutable (00_scope.md R8; log entry 20) -/
  params : Params
  /-- `ROM`, immutable (R30; 20_memory.md R52) -/
  rom : Rom
  /-- the input events not yet delivered, oldest first (R22); the environment's -/
  pending : List Input
  /-- the oracle answers of the step in progress (R35); the environment's -/
  answers : Answers
  /-- the index of the next event (R22), advanced by one by every step that serves an event; it numbers the draws of
  the free values (log entry 6) -/
  eventIndex : Nat
  /-- the environment calls made so far, oldest first (R47) -/
  trace : List EnvCall
  /-- the outcome of the last step: none before the first setup step and after a bus event (R46, R200) -/
  outcome : Option SetupOutcome
  deriving DecidableEq, Repr

/-- The form of the registers that depend on `EP0BUF_CAP`: there are as many buffer registers as the parameter says, and
`RXLEN` is at most that many (R21, R26). True at reset and kept by every operation (Laws/Memory.lean). -/
abbrev State.Sized (s : State) : Prop := s.ep0buf.length = s.params.ep0bufCap ∧ s.rxlen ≤ s.params.ep0bufCap

/-- Why the machine stops with a fault. Nobody raises one: the block has no fatal-error path, every failure is a
`Reject`, which is a next state (60_exceptions.md R210; 93_implementation_defined.md, end of part 2). Safe: a run of the
model never ends where the hardware goes on (log entry 16). -/
inductive Fault where
  deriving DecidableEq, Repr

/-- Why the machine refuses an instruction. -/
inductive Refusal where
  /-- raised by an arm of `exec` whose instruction has no meaning yet; no arm does. Safe: the model stops. -/
  | notModelled (mnemonic : String)
  deriving DecidableEq, Repr

/-- The state after power-on, before the first event (R31, 70_reset_and_hazards.md R240). `CONFIG` is 0. `EP0BUF` and
`RXLEN` are unspecified: free launch values (log entry 4). The parameters are the hardware's own (00_scope.md R8), and
`ROM` is the open one, all its slots filled (41_descriptor_store.md R121; log entry 7). No event has been
delivered and nothing observed (log entry 5). -/
def State.reset : State where
  ep0buf := (List.range Config.params.ep0bufCap).map Config.launchByte
  config := 0
  rxlen := min Config.launchRxlen Config.params.ep0bufCap
  params := Config.params
  rom := Config.rom.rom
  pending := []
  answers := Config.launchAnswers
  eventIndex := 0
  trace := []
  outcome := none

end Sys2Proof.Machine
end

