-- ==== Sys2Proof/Machine/Ops.lean ====
section
/-! DEFINITION. The shared operations: `MemRead` and `MemWrite` (00_scope.md R15), the register writes, the environment
calls (10_state.md R38 to R45), taking the exception `Reject` (60_exceptions.md R214), `SEND` and `ACK`
(42_dispatcher.md R143, R144), and the delivery of an input event. There is no return from `Reject` to define: the block
saves nothing and restores nothing (R215, R217). -/

namespace Sys2Proof.Machine

/-! ### Memory -/

/-- `MemRead(space, addr, n)` on the bytes of a space (R15). -/
def memRead (space : List Byte) (addr n : Nat) : List Byte := (space.drop addr).take n

/-- `MemWrite(space, addr, n, v)` on the bytes of a space (R15): byte `addr + k` becomes `v[k]`, every other byte is kept,
and nothing is written past the end of the space (20_memory.md R59). -/
def memWrite : List Byte → Nat → List Byte → List Byte
  | [], _, _ => []
  | b :: bs, addr + 1, v => b :: memWrite bs addr v
  | b :: bs, 0, [] => b :: bs
  | _ :: bs, 0, x :: v => x :: memWrite bs 0 v

/-- `MemRead(EP0BUF, 0, n)`. -/
def State.readEp0 (s : State) (n : Nat) : List Byte := memRead s.ep0buf 0 n

/-- `MemWrite(EP0BUF, 0, len(v), v)`. -/
def State.writeEp0 (s : State) (v : List Byte) : State := { s with ep0buf := memWrite s.ep0buf 0 v }

/-! ### Registers -/

/-- `CONFIG <- v`. -/
def State.setConfig (s : State) (v : Byte) : State := { s with config := v }

/-- `RXLEN <- v`. -/
def State.setRxlen (s : State) (v : Nat) : State := { s with rxlen := v }

/-! ### Environment calls -/

/-- Records one environment call at the end of the trace (10_state.md R47). -/
def State.record (s : State) (c : EnvCall) : State := { s with trace := s.trace ++ [c] }

/-- The step ends with outcome `o` (00_scope.md R15, `outcome <- o`). -/
def State.finish (s : State) (o : SetupOutcome) : State := { s with outcome := some o }

/-- `env.queryLinkSpeed()` (R38). -/
def queryLinkSpeed (s : State) : Speed × State :=
  (s.answers.speed, s.record (.queryLinkSpeed s.answers.speed))

/-- `env.queryEndpointStallState(e)` (R39). -/
def queryEndpointStallState (e : Half) (s : State) : Bool × State :=
  (s.answers.stalled, s.record (.queryEndpointStallState e s.answers.stalled))

/-- `env.sendResponse(bytes)` (R40). -/
def sendResponse (bytes : List Byte) (s : State) : CallResult × State :=
  (s.answers.send, s.record (.sendResponse bytes s.answers.send))

/-- `env.acknowledge()` (R41). -/
def acknowledge (s : State) : CallResult × State :=
  (s.answers.ack, s.record (.acknowledge s.answers.ack))

/-- `env.receiveData(n)` (R45): at most `n` bytes arrive, whatever the host has. -/
def receiveData (n : Nat) (s : State) : CallResult × List Byte × State :=
  (s.answers.receive, s.answers.received.take n,
    s.record (.receiveData n s.answers.receive (s.answers.received.take n)))

/-- `env.notifyApplicationStart()` (R43). -/
def notifyApplicationStart (s : State) : State := s.record .notifyApplicationStart

/-- `env.notifyApplicationStop()` (R43). -/
def notifyApplicationStop (s : State) : State := s.record .notifyApplicationStop

/-- `env.disableLowPower()` (R44). -/
def disableLowPower (s : State) : State := s.record .disableLowPower

/-! ### The exception -/

/-- The spec's own number of a cause (60_exceptions.md R211). -/
def RejectCause.code : RejectCause → Nat
  | .unmatched => 0
  | .unsupported => 1
  | .lookupMiss => 2
  | .transport => 3

/-- `raise Reject(cause)` (60_exceptions.md R214): one `reject` call, the last of the step, and the step ends. What the
rule did before is not undone (R216); nothing is saved, no mode changes, control goes nowhere (R215). -/
def raiseReject (cause : RejectCause) (s : State) : State := (s.record .reject).finish (.reject cause)

/-! ### Completing a transfer -/

/-- `SEND(bytes)` (42_dispatcher.md R143). -/
def send (bytes : List Byte) (s : State) : State :=
  match sendResponse bytes s with
  | (.ok, s1) => s1.finish (.respond bytes)
  | (.fail, s1) => raiseReject .transport s1

/-- Acknowledges; on `ok` the rule's state write `commit` takes place and the step ends with `Acknowledge`, on `fail` it
is not made and the step rejects (R144; 43_configuration.md R170 with a commit). -/
def ackThen (commit : State → State) (s : State) : State :=
  match acknowledge s with
  | (.ok, s1) => (commit s1).finish .acknowledge
  | (.fail, s1) => raiseReject .transport s1

/-- `ACK()` (42_dispatcher.md R144). -/
def ack (s : State) : State := ackThen (fun s1 => s1) s

/-! ### Delivery of an input -/

/-- The environment delivers the input at the head of its list: its answers become those of the step, and the index of
the next event advances by one whatever the step's outcome will be (10_state.md R22, R35). -/
def State.takeInput (s : State) (input : Input) (rest : List Input) : State :=
  { s with pending := rest, answers := input.answers, eventIndex := s.eventIndex + 1 }

/-- The event stands first in the environment's list, with the answers that stand in the state. -/
def State.deliverFirst (s : State) (e : Event) : State :=
  { s with pending := ⟨e, s.answers⟩ :: s.pending }

end Sys2Proof.Machine
end

