-- ==== Sys2Proof/Machine/BusEvents.lean ====
section
/-! DEFINITION. The Bus Event Handler (45_bus_events.md). Bus events are inputs, not rows of the opcode table. -/

namespace Sys2Proof.Machine

/-- A bus-event step has no outcome value (R200; log entry 10). -/
def State.noOutcome (s : State) : State := { s with outcome := none }

/-- BUS_RESET (R201): the stop notification, unconditionally; no state is reverted. -/
def busReset (s : State) : State := (notifyApplicationStop s).noOutcome

/-- BUS_OTHER (R202): no call, no state change. -/
def busOther (s : State) : State := s.noOutcome

/-- `HANDLE_BUS_EVENT(kind, aux)` (R200): `aux` is not read; it never rejects and never fails. -/
def handleBusEvent (kind : BusKind) (_aux : Nat) (s : State) : Host.Outcome State Fault Refusal :=
  .next (match kind with
    | .reset => busReset s
    | .other => busOther s)

end Sys2Proof.Machine
end

