-- ==== Sys2Proof/Machine/Configuration.lean ====
section
/-! DEFINITION. The Configuration State Machine and its one request, SET_CONFIGURATION (43_configuration.md). -/

namespace Sys2Proof.Machine

/-- R170, in the order of conflict C2: low power off, start notification, acknowledge; `CONFIG <- 1` only when the
acknowledge succeeded. No guard on the current state (R172); the notification is not undone on failure (R173). -/
def setConfiguration (s : State) : State :=
  ackThen (fun s1 => s1.setConfig 1) (notifyApplicationStart (disableLowPower s))

/-- SET_CONFIGURATION (R170); `wIndex` and `wLength` are ignored, no data is received (R176). -/
def execSetConfiguration (_wIndex _wLength : Half) (s : State) : Host.Outcome State Fault Refusal :=
  .next (setConfiguration s)

end Sys2Proof.Machine
end

