-- ==== Sys2Proof/Machine/Operands.lean ====
section
/-! DEFINITION. Operand forms (30_encoding.md R84): every operand is an unsigned field used at its own width. The class
and sub-index bytes are split off in the decoder (Decode.lean, `classOf`, `subIndexOf`); here stands the maximum
length `L` and the length computation every response uses. -/

namespace Sys2Proof.Machine

/-- `min(D, L)` with `L = wLength` (20_memory.md R60, R71, R72). -/
def clampLength (available : Nat) (wLength : Half) : Nat := min available wLength.toNat

end Sys2Proof.Machine
end

