-- ==== Sys2Proof/Machine/DescriptorStore.lean ====
section
/-! DEFINITION. The Descriptor Store lookup engine (41_descriptor_store.md): LOOKUP, LOOKUP_MS and TRUNC. DECLEN stands
with the table's layout contract in Machine/Rom.lean. -/

namespace Sys2Proof.Machine

/-- The slot a speed-dependent class names (R125): none at speed Unknown (the spec's decision D6). -/
def speedSlot (high super : Slot) : Speed → Option Slot
  | .high => some high
  | .super => some super
  | .unknown => none

/-- The slot of a string sub-index, at any speed (R124, R125). -/
def stringSlot (p : Params) (idx : Byte) : Option Slot :=
  if idx = p.strLangidIndex then some .strLangid
  else if idx = p.strManufacturerIndex then some .strManufacturer
  else if idx = p.strProductIndex then some .strProduct
  else if idx = p.strSerialIndex then some .strSerial
  else if idx = p.msOsStringIndex then some .strMsos
  else none

/-- The slot a key names, before the table is looked at (R124). With `SUBINDEX_STRICT` Device, Configuration and
BOS are named at sub-index 0 only (R127). -/
def keySlot (p : Params) (cls idx : Byte) (spd : Speed) : Option Slot :=
  let zeroOk := idx = 0 ∨ p.subindexStrict = false
  if cls = p.dtDevice ∧ zeroOk then speedSlot .devHs .devSs spd
  else if cls = p.dtConfiguration ∧ zeroOk then speedSlot .cfgHs .cfgSs spd
  else if cls = p.dtBos ∧ zeroOk then some .bos
  else if cls = p.dtString then stringSlot p idx
  else none

/-- A slot that holds nothing is a miss (R121). -/
def filled (rom : Rom) (s : Slot) : Option Slot := if (rom.slot s).isSome then some s else none

/-- `LOOKUP(cls, idx, spd)` (R124): a slot, or `none` for a miss. -/
def lookup (p : Params) (rom : Rom) (cls idx : Byte) (spd : Speed) : Option Slot :=
  (keySlot p cls idx spd).bind (filled rom)

/-- The slot of a Microsoft descriptor (R130). -/
def msSlot : MsDescriptor → Slot
  | .compatId => .msCompatId
  | .extProps => .msExtProps

/-- `LOOKUP_MS(which)` (R130). -/
def lookupMs (rom : Rom) (which : MsDescriptor) : Option Slot := filled rom (msSlot which)

/-- `TRUNC(s, L)` (R128): the first `min(DECLEN, L)` bytes of the slot's blob. A slot that holds nothing, to which the
rule does not apply, gives no bytes. -/
def trunc (rom : Rom) (s : Slot) (wLength : Half) : List Byte :=
  match rom.slot s with
  | some b => memRead b 0 (clampLength (declLen s b) wLength)
  | none => []

/-- What a request that sends a descriptor does with a lookup's answer: reject on a miss, else send the truncated blob
(42_dispatcher.md R146; 44_vendor_channel.md R181, R182). -/
def sendLookup (found : Option Slot) (wLength : Half) (s : State) : State :=
  match found with
  | none => raiseReject .lookupMiss s
  | some slot => send (trunc s.rom slot wLength) s

end Sys2Proof.Machine
end

