-- ==== Sys2Proof/Machine/GetDescriptor.lean ====
section
/-! DEFINITION. GET_DESCRIPTOR, five rows with one semantics rule (42_dispatcher.md R146). `wIndex`, the language id, is
ignored (R85, R148). -/

namespace Sys2Proof.Machine

/-- R146: the link speed is queried exactly once, before the lookup, for every class (R147). -/
def getDescriptor (cls idx : Byte) (wLength : Half) (s : State) : State :=
  let (spd, s1) := queryLinkSpeed s
  sendLookup (lookup s1.params s1.rom cls idx spd) wLength s1

/-- GET_DESCRIPTOR.DEVICE (R146). -/
def execGetDescriptorDevice (idx : Byte) (_wIndex wLength : Half) (s : State) : Host.Outcome State Fault Refusal :=
  .next (getDescriptor s.params.dtDevice idx wLength s)

/-- GET_DESCRIPTOR.CONFIGURATION (R146). -/
def execGetDescriptorConfiguration (idx : Byte) (_wIndex wLength : Half) (s : State) :
    Host.Outcome State Fault Refusal :=
  .next (getDescriptor s.params.dtConfiguration idx wLength s)

/-- GET_DESCRIPTOR.STRING (R146). -/
def execGetDescriptorString (idx : Byte) (_wIndex wLength : Half) (s : State) : Host.Outcome State Fault Refusal :=
  .next (getDescriptor s.params.dtString idx wLength s)

/-- GET_DESCRIPTOR.BOS (R146). -/
def execGetDescriptorBos (idx : Byte) (_wIndex wLength : Half) (s : State) : Host.Outcome State Fault Refusal :=
  .next (getDescriptor s.params.dtBos idx wLength s)

/-- GET_DESCRIPTOR.OTHER (R146): the class names no slot, so the lookup misses. -/
def execGetDescriptorOther (cls idx : Byte) (_wIndex wLength : Half) (s : State) :
    Host.Outcome State Fault Refusal :=
  .next (getDescriptor cls idx wLength s)

end Sys2Proof.Machine
end

