-- ==== Sys2Proof/Machine/Refused.lean ====
section
/-! DEFINITION. The requests that are always rejected (42_dispatcher.md R153 to R156): nothing is written and no data
stage is performed; every operand is ignored. -/

namespace Sys2Proof.Machine

/-- SET_FEATURE (R153). -/
def execSetFeature (_wValue _wIndex _wLength : Half) (s : State) : Host.Outcome State Fault Refusal :=
  .next (raiseReject .unsupported s)

/-- SET_SEL (R154). -/
def execSetSel (_wValue _wIndex _wLength : Half) (s : State) : Host.Outcome State Fault Refusal :=
  .next (raiseReject .unsupported s)

/-- SET_ISOC_DELAY (R155). -/
def execSetIsocDelay (_wValue _wIndex _wLength : Half) (s : State) : Host.Outcome State Fault Refusal :=
  .next (raiseReject .unsupported s)

/-- REJECT_DEFAULT (R156). -/
def execRejectDefault (_bmRequestType _bRequest : Byte) (_wValue _wIndex _wLength : Half) (s : State) :
    Host.Outcome State Fault Refusal :=
  .next (raiseReject .unmatched s)

end Sys2Proof.Machine
end

