-- ==== Sys2Proof/Machine/Flags.lean ====
section
/-! DEFINITION. The block has no condition codes and no flags (10_state.md R23). The one status value it computes is the
GET_STATUS reply, a 2-byte little-endian word whose only bit is the stall bit of an endpoint (20_memory.md R56, R71). -/

namespace Sys2Proof.Machine

/-- `zext_8` of a boolean: true gives 0x01, false gives 0x00 (R71). -/
def zextBool (b : Bool) : Byte := if b then 0x01 else 0x00

/-- The GET_STATUS reply: low byte with bit 0 = stalled, high byte zero (R56). -/
def statusReply (stalled : Bool) : List Byte := [zextBool stalled, 0x00]

end Sys2Proof.Machine
end

