-- ==== Sys2Proof/Machine/Status.lean ====
section
/-! DEFINITION. GET_CONFIGURATION and GET_STATUS (42_dispatcher.md R149 to R152): the reply is staged in EP0Buffer, then
sent from it. -/

namespace Sys2Proof.Machine

/-- Stages a reply at the start of EP0Buffer, whatever `L` is and whatever the send will return, then sends the first
`min(replyLen, L)` bytes (R149 to R152; the spec's decisions D10, D11, D12). -/
def stageAndSend (reply : List Byte) (replyLen : Nat) (wLength : Half) (s : State) : State :=
  let s1 := s.writeEp0 reply
  send (s1.readEp0 (clampLength replyLen wLength)) s1

/-- GET_CONFIGURATION (R149). -/
def execGetConfiguration (_wValue _wIndex wLength : Half) (s : State) : Host.Outcome State Fault Refusal :=
  .next (stageAndSend [s.config] s.params.getConfigurationLen wLength s)

/-- GET_STATUS.DEV (R150): the status word is always zero. -/
def execGetStatusDev (_wValue _wIndex wLength : Half) (s : State) : Host.Outcome State Fault Refusal :=
  .next (stageAndSend (statusReply false) s.params.getStatusLen wLength s)

/-- GET_STATUS.IF (R151): as GET_STATUS.DEV; no check that the interface exists. -/
def execGetStatusIf (_wValue _wIndex wLength : Half) (s : State) : Host.Outcome State Fault Refusal :=
  .next (stageAndSend (statusReply false) s.params.getStatusLen wLength s)

/-- R152: the whole 16-bit `wIndex` is passed to the query, exactly once. -/
def getStatusEndpoint (endpoint wLength : Half) (s : State) : State :=
  let (stalled, s1) := queryEndpointStallState endpoint s
  stageAndSend (statusReply stalled) s1.params.getStatusLen wLength s1

/-- GET_STATUS.EP (R152). -/
def execGetStatusEp (_wValue wIndex wLength : Half) (s : State) : Host.Outcome State Fault Refusal :=
  .next (getStatusEndpoint wIndex wLength s)

end Sys2Proof.Machine
end

