-- ==== Sys2Proof/Machine/Vendor.lean ====
section
/-! DEFINITION. The vendor requests (44_vendor_channel.md): the two Microsoft OS descriptor requests and the Vendor Data
Channel. None depends on `CONFIG` or the link speed (R180). -/

namespace Sys2Proof.Machine

/-- MS_COMPAT_ID (R181); `wValue` is ignored, the link speed is not queried. -/
def execMsCompatId (_wValue wLength : Half) (s : State) : Host.Outcome State Fault Refusal :=
  .next (sendLookup (lookupMs s.rom .compatId) wLength s)

/-- MS_EXT_PROPS (R182). -/
def execMsExtProps (_wValue wLength : Half) (s : State) : Host.Outcome State Fault Refusal :=
  .next (sendLookup (lookupMs s.rom .extProps) wLength s)

/-- VENDOR_READ (R183): a pure echo of the buffer; `RXLEN` is not consulted (the spec's decision D19). -/
def execVendorRead (_wValue _wIndex wLength : Half) (s : State) : Host.Outcome State Fault Refusal :=
  .next (send (s.readEp0 (clampLength s.params.ep0bufCap wLength)) s)

/-- R185, what a failed receive of `n` bytes leaves: the window `EP0BUF[0 .. n-1]` and `RXLEN` hold free values, every
other byte is kept (the spec's decision D18; log entry 6). -/
def spoilWindow (n : Nat) (arrived : List Byte) (s : State) : State :=
  let draw := s.eventIndex
  let before := s.ep0buf
  (s.writeEp0 ((List.range n).map (Config.failedReceiveByte draw before n arrived))).setRxlen
    (min (Config.failedReceiveLen draw before n arrived) s.params.ep0bufCap)

/-- R184 and R185: asks for at most `EP0BUF_CAP` bytes; on success overwrites only the bytes received
and records their count. -/
def vendorWrite (wLength : Half) (s : State) : State :=
  let n := clampLength s.params.ep0bufCap wLength
  match receiveData n s with
  | (.ok, data, s1) => ((s1.writeEp0 data).setRxlen data.length).finish .acknowledge
  | (.fail, data, s1) => raiseReject .transport (spoilWindow n data s1)

/-- VENDOR_WRITE (R184, R185); `wIndex` is ignored, whichever interface the host names (R191). -/
def execVendorWrite (_wValue _wIndex wLength : Half) (s : State) : Host.Outcome State Fault Refusal :=
  .next (vendorWrite wLength s)

end Sys2Proof.Machine
end

