-- ==== Sys2Proof/Machine/Dispatch.lean ====
section
/-! DEFINITION. One arm per request rule (42_dispatcher.md R140). -/

namespace Sys2Proof.Machine

def exec (i : Instr) (s : State) : Host.Outcome State Fault Refusal :=
  match i with
  | .getDescriptorDevice idx wIndex wLength => Sys2Proof.Machine.execGetDescriptorDevice idx wIndex wLength s
  | .getDescriptorConfiguration idx wIndex wLength => Sys2Proof.Machine.execGetDescriptorConfiguration idx wIndex wLength s
  | .getDescriptorString idx wIndex wLength => Sys2Proof.Machine.execGetDescriptorString idx wIndex wLength s
  | .getDescriptorBos idx wIndex wLength => Sys2Proof.Machine.execGetDescriptorBos idx wIndex wLength s
  | .getDescriptorOther cls idx wIndex wLength => Sys2Proof.Machine.execGetDescriptorOther cls idx wIndex wLength s
  | .getConfiguration wValue wIndex wLength => Sys2Proof.Machine.execGetConfiguration wValue wIndex wLength s
  | .getStatusDev wValue wIndex wLength => Sys2Proof.Machine.execGetStatusDev wValue wIndex wLength s
  | .getStatusIf wValue wIndex wLength => Sys2Proof.Machine.execGetStatusIf wValue wIndex wLength s
  | .getStatusEp wValue wIndex wLength => Sys2Proof.Machine.execGetStatusEp wValue wIndex wLength s
  | .setFeature wValue wIndex wLength => Sys2Proof.Machine.execSetFeature wValue wIndex wLength s
  | .setSel wValue wIndex wLength => Sys2Proof.Machine.execSetSel wValue wIndex wLength s
  | .setIsocDelay wValue wIndex wLength => Sys2Proof.Machine.execSetIsocDelay wValue wIndex wLength s
  | .setConfiguration wIndex wLength => Sys2Proof.Machine.execSetConfiguration wIndex wLength s
  | .msCompatId wValue wLength => Sys2Proof.Machine.execMsCompatId wValue wLength s
  | .msExtProps wValue wLength => Sys2Proof.Machine.execMsExtProps wValue wLength s
  | .vendorRead wValue wIndex wLength => Sys2Proof.Machine.execVendorRead wValue wIndex wLength s
  | .vendorWrite wValue wIndex wLength => Sys2Proof.Machine.execVendorWrite wValue wIndex wLength s
  | .rejectDefault bmRequestType bRequest wValue wIndex wLength => Sys2Proof.Machine.execRejectDefault bmRequestType bRequest wValue wIndex wLength s

end Sys2Proof.Machine
end

