-- ==== Sys2Proof/Machine/Step.lean ====
section
/-! DEFINITION. One step: the next input event is delivered and handled as a whole (10_state.md R34, R62). -/

namespace Sys2Proof.Machine

/-- `HANDLE_SETUP(w0, w1)` (42_dispatcher.md R140): decode, match, and exactly one arm runs. -/
def handleSetup (w0 w1 : Word) (s : State) : Host.Outcome State Fault Refusal := exec (decodeWords s.params w0 w1) s

/-- One step of a run (10_state.md R22): the event at the head of the environment's list is delivered and handled. With
no event left the block is idle and does nothing (70_reset_and_hazards.md R241; log entry 1). -/
def step (s : State) : Host.Outcome State Fault Refusal :=
  match s.pending with
  | [] => .next s
  | input :: rest =>
    match input.event with
    | .setup w0 w1 => handleSetup w0 w1 (s.takeInput input rest)
    | .bus kind aux => handleBusEvent kind aux (s.takeInput input rest)

/-- The packet of a table word is the next event, with the answers that stand in the state (log entry 3). -/
def State.withFetchWord (s : State) (nbits w : Nat) : State :=
  s.deliverFirst (.setup (wordsOfTableWord nbits w).1 (wordsOfTableWord nbits w).2)

end Sys2Proof.Machine
end

