-- ==== Sys2Proof/Safety.lean ====
section
/-! DEFINITION. What a safe run is, in the terms the claims use: the invariant of the block, the classes of requests a
frame speaks of, and what the host can see of an outcome. -/

namespace Sys2Proof

open Sys2Proof.Machine

/-- An environment call stays inside the bounds of its interface: a response has at most 65535 bytes (10_state.md R40),
a receive asks for at most `EP0BUF_CAP` and delivers at most what was asked for (R45). -/
def Machine.EnvCall.bounded (p : Params) : EnvCall → Prop
  | .sendResponse bytes _ => bytes.length ≤ 65535
  | .receiveData n _ data => n ≤ p.ep0bufCap ∧ data.length ≤ n
  | .queryLinkSpeed _ => True
  | .queryEndpointStallState _ _ => True
  | .acknowledge _ => True
  | .reject => True
  | .notifyApplicationStart => True
  | .notifyApplicationStop => True
  | .disableLowPower => True

/-- The pairing of an outcome with the last call of its step (10_state.md R46). -/
def Machine.SetupOutcome.pairedWith (o : SetupOutcome) (last : Option EnvCall) : Prop :=
  match o with
  | .respond bytes => last = some (.sendResponse bytes .ok)
  | .acknowledge => last = some (.acknowledge .ok) ∨ ∃ n data, last = some (.receiveData n .ok data)
  | .reject _ => last = some .reject

/-- The invariant of the block and of what is observed of it. -/
structure Machine.State.Inv (s : State) : Prop where
  /-- `EP0BUF` has `EP0BUF_CAP` registers and `RXLEN` is at most `EP0BUF_CAP` (R21, R26) -/
  sized : s.Sized
  /-- `CONFIG` is 0 or 1: the values 2 to 255 are unreachable (R24) -/
  configLegal : s.config = 0 ∨ s.config = 1
  /-- the device is configured only after a successful acknowledge and a start notification (R24, R170) -/
  configuredAfterAck : s.config = 1 → EnvCall.acknowledge .ok ∈ s.trace ∧ EnvCall.notifyApplicationStart ∈ s.trace
  /-- the last outcome is paired with the last call (R46) -/
  outcomePaired : ∀ o, s.outcome = some o → o.pairedWith s.trace.getLast?
  /-- every call stays inside its interface's bounds (R40, R45) -/
  callsBounded : ∀ c ∈ s.trace, c.bounded s.params

/-- The requests that write none of `EP0BUF`, `CONFIG`, `RXLEN` (10_state.md R21, last row; 44_vendor_channel.md R183). -/
def Instr.writesNothing : Instr → Bool
  | .getDescriptorDevice _ _ _ => true
  | .getDescriptorConfiguration _ _ _ => true
  | .getDescriptorString _ _ _ => true
  | .getDescriptorBos _ _ _ => true
  | .getDescriptorOther _ _ _ _ => true
  | .getConfiguration _ _ _ => false
  | .getStatusDev _ _ _ => false
  | .getStatusIf _ _ _ => false
  | .getStatusEp _ _ _ => false
  | .setFeature _ _ _ => true
  | .setSel _ _ _ => true
  | .setIsocDelay _ _ _ => true
  | .setConfiguration _ _ => false
  | .msCompatId _ _ => true
  | .msExtProps _ _ => true
  | .vendorRead _ _ _ => true
  | .vendorWrite _ _ _ => false
  | .rejectDefault _ _ _ _ _ => true

/-- The five rows with the semantics of GET_DESCRIPTOR (42_dispatcher.md R146). -/
def Instr.isGetDescriptor : Instr → Bool
  | .getDescriptorDevice _ _ _ => true
  | .getDescriptorConfiguration _ _ _ => true
  | .getDescriptorString _ _ _ => true
  | .getDescriptorBos _ _ _ => true
  | .getDescriptorOther _ _ _ _ => true
  | .getConfiguration _ _ _ => false
  | .getStatusDev _ _ _ => false
  | .getStatusIf _ _ _ => false
  | .getStatusEp _ _ _ => false
  | .setFeature _ _ _ => false
  | .setSel _ _ _ => false
  | .setIsocDelay _ _ _ => false
  | .setConfiguration _ _ => false
  | .msCompatId _ _ => false
  | .msExtProps _ _ => false
  | .vendorRead _ _ _ => false
  | .vendorWrite _ _ _ => false
  | .rejectDefault _ _ _ _ _ => false

/-- How many bytes from the start of `EP0BUF` a request may write (the table of R21). -/
def Instr.stagedBytes (p : Params) : Instr → Nat
  | .getDescriptorDevice _ _ _ => 0
  | .getDescriptorConfiguration _ _ _ => 0
  | .getDescriptorString _ _ _ => 0
  | .getDescriptorBos _ _ _ => 0
  | .getDescriptorOther _ _ _ _ => 0
  | .getConfiguration _ _ _ => 1
  | .getStatusDev _ _ _ => 2
  | .getStatusIf _ _ _ => 2
  | .getStatusEp _ _ _ => 2
  | .setFeature _ _ _ => 0
  | .setSel _ _ _ => 0
  | .setIsocDelay _ _ _ => 0
  | .setConfiguration _ _ => 0
  | .msCompatId _ _ => 0
  | .msExtProps _ _ => 0
  | .vendorRead _ _ _ => 0
  | .vendorWrite _ _ wLength => min p.ep0bufCap wLength.toNat
  | .rejectDefault _ _ _ _ _ => 0

/-- `wLength` of a request (30_encoding.md R81). -/
def Instr.maxLength : Instr → Half
  | .getDescriptorDevice _ _ wl => wl
  | .getDescriptorConfiguration _ _ wl => wl
  | .getDescriptorString _ _ wl => wl
  | .getDescriptorBos _ _ wl => wl
  | .getDescriptorOther _ _ _ wl => wl
  | .getConfiguration _ _ wl => wl
  | .getStatusDev _ _ wl => wl
  | .getStatusIf _ _ wl => wl
  | .getStatusEp _ _ wl => wl
  | .setFeature _ _ wl => wl
  | .setSel _ _ wl => wl
  | .setIsocDelay _ _ wl => wl
  | .setConfiguration _ wl => wl
  | .msCompatId _ wl => wl
  | .msExtProps _ wl => wl
  | .vendorRead _ _ wl => wl
  | .vendorWrite _ _ wl => wl
  | .rejectDefault _ _ _ _ wl => wl

/-- An event that leaves `EP0BUF` alone, whatever its answers (44_vendor_channel.md R188): every bus event, and every
setup packet whose request stages or receives nothing. -/
def Machine.Event.sparesBuffer (p : Params) : Event → Bool
  | .setup w0 w1 => (decodeWords p w0 w1).stagedBytes p == 0
  | .bus _ _ => true

/-- Which environment call a call is, without its arguments and answer. -/
inductive CallKind where
  | queryLinkSpeed
  | queryEndpointStallState
  | sendResponse
  | acknowledge
  | reject
  | notifyApplicationStart
  | notifyApplicationStop
  | disableLowPower
  | receiveData
  deriving DecidableEq, Repr

/-- The kind of a call (10_state.md R38 to R45). -/
def Machine.EnvCall.kind : EnvCall → CallKind
  | .queryLinkSpeed _ => .queryLinkSpeed
  | .queryEndpointStallState _ _ => .queryEndpointStallState
  | .sendResponse _ _ => .sendResponse
  | .acknowledge _ => .acknowledge
  | .reject => .reject
  | .notifyApplicationStart => .notifyApplicationStart
  | .notifyApplicationStop => .notifyApplicationStop
  | .disableLowPower => .disableLowPower
  | .receiveData _ _ _ => .receiveData

/-- The call lists of one request: the success path first (none for a request that is always rejected), then the
failure paths (42_dispatcher.md R158). -/
structure CallPaths where
  success : List (List CallKind)
  failure : List (List CallKind)
  deriving DecidableEq, Repr

/-- The table of R158. -/
def Instr.callPaths : Instr → CallPaths
  | .getDescriptorDevice _ _ _ => descriptorPaths
  | .getDescriptorConfiguration _ _ _ => descriptorPaths
  | .getDescriptorString _ _ _ => descriptorPaths
  | .getDescriptorBos _ _ _ => descriptorPaths
  | .getDescriptorOther _ _ _ _ => descriptorPaths
  | .getConfiguration _ _ _ => sendPaths
  | .getStatusDev _ _ _ => sendPaths
  | .getStatusIf _ _ _ => sendPaths
  | .getStatusEp _ _ _ =>
    ⟨[[.queryEndpointStallState, .sendResponse]], [[.queryEndpointStallState, .sendResponse, .reject]]⟩
  | .setFeature _ _ _ => ⟨[], [[.reject]]⟩
  | .setSel _ _ _ => ⟨[], [[.reject]]⟩
  | .setIsocDelay _ _ _ => ⟨[], [[.reject]]⟩
  | .setConfiguration _ _ =>
    ⟨[[.disableLowPower, .notifyApplicationStart, .acknowledge]],
      [[.disableLowPower, .notifyApplicationStart, .acknowledge, .reject]]⟩
  | .msCompatId _ _ => ⟨[[.sendResponse]], [[.reject], [.sendResponse, .reject]]⟩
  | .msExtProps _ _ => ⟨[[.sendResponse]], [[.reject], [.sendResponse, .reject]]⟩
  | .vendorRead _ _ _ => sendPaths
  | .vendorWrite _ _ _ => ⟨[[.receiveData]], [[.receiveData, .reject]]⟩
  | .rejectDefault _ _ _ _ _ => ⟨[], [[.reject]]⟩
where
  /-- the row GET_DESCRIPTOR -/
  descriptorPaths : CallPaths :=
    ⟨[[.queryLinkSpeed, .sendResponse]], [[.queryLinkSpeed, .reject], [.queryLinkSpeed, .sendResponse, .reject]]⟩
  /-- the rows that only send -/
  sendPaths : CallPaths := ⟨[[.sendResponse]], [[.sendResponse, .reject]]⟩

/-- What the host sees of an outcome: the causes of a reject are one stall (60_exceptions.md R212). -/
inductive HostView where
  | bytes (sent : List Byte)
  | acknowledged
  | stalled
  deriving DecidableEq, Repr

/-- The host's view of an outcome (R46, R212). -/
def Machine.SetupOutcome.hostView : SetupOutcome → HostView
  | .respond bytes => .bytes bytes
  | .acknowledge => .acknowledged
  | .reject _ => .stalled

end Sys2Proof
end

