-- ==== Sys2Proof/Certificates/Slice0/Obligations.lean ====
section
/-! DEFINITION. The statements for the provers. Each docstring names the rule of spec/ it formalises. -/

open Sys2Proof Sys2Proof.Machine

/-! ### Reset, decoding, encoding -/

/-- O1. After power-on `CONFIG` is 0 (10_state.md section 8). That nothing is pending and nothing has been observed is
the model's choice (log entries 5 and 10). -/
def Obligations.ResetLeavesDeviceUnconfigured : Prop :=
  State.reset.config = 0 ∧ State.reset.pending = [] ∧ State.reset.eventIndex = 0 ∧ State.reset.trace = [] ∧
    State.reset.outcome = none

/-- O2. DECODE (40_decoder.md R110): every field is the named bits of the word, as arithmetic; and the worked example. -/
def Obligations.DecoderExtractsEveryField : Prop :=
  (∀ w0 w1 : Word,
    (decodeSetup w0 w1).dir.toNat = w0.toNat / 128 % 2 ∧
    (decodeSetup w0 w1).type.toNat = w0.toNat / 32 % 4 ∧
    (decodeSetup w0 w1).target.toNat = w0.toNat % 32 ∧
    (decodeSetup w0 w1).bRequest.toNat = w0.toNat / 256 % 256 ∧
    (decodeSetup w0 w1).wValue.toNat = w0.toNat / 65536 ∧
    (decodeSetup w0 w1).wIndex.toNat = w1.toNat % 65536 ∧
    (decodeSetup w0 w1).wLength.toNat = w1.toNat / 65536) ∧
  decodeSetup 0x01000680 0x00120000 = ⟨1, 0, 0, 0x06, 0x0100, 0x0000, 0x0012⟩

/-- O3. The inverse of decoding (30_encoding.md section 7, which the spec derives): the sums, and both round trips. -/
def Obligations.EncodingInvertsDecoding : Prop :=
  (∀ (bm rq : Byte) (v i l : Half),
    (encodeFields bm rq v i l).1.toNat = bm.toNat + 256 * rq.toNat + 65536 * v.toNat ∧
    (encodeFields bm rq v i l).2.toNat = i.toNat + 65536 * l.toNat ∧
    (decodeSetup (encodeFields bm rq v i l).1 (encodeFields bm rq v i l).2).bmRequestType = bm ∧
    (decodeSetup (encodeFields bm rq v i l).1 (encodeFields bm rq v i l).2).bRequest = rq ∧
    (decodeSetup (encodeFields bm rq v i l).1 (encodeFields bm rq v i l).2).wValue = v ∧
    (decodeSetup (encodeFields bm rq v i l).1 (encodeFields bm rq v i l).2).wIndex = i ∧
    (decodeSetup (encodeFields bm rq v i l).1 (encodeFields bm rq v i l).2).wLength = l) ∧
  (∀ r : SetupRequest, r.bmRequestType.toNat = 128 * r.dir.toNat + 32 * r.type.toNat + r.target.toNat) ∧
  ∀ w0 w1 : Word,
    encodeFields (decodeSetup w0 w1).bmRequestType (decodeSetup w0 w1).bRequest (decodeSetup w0 w1).wValue
      (decodeSetup w0 w1).wIndex (decodeSetup w0 w1).wLength = (w0, w1)

/-- O4. The setup packet is little-endian (20_memory.md R54): of each 16-bit field the byte earlier on the wire is the
low byte, word 0 holds wire bytes 0 to 3 and word 1 wire bytes 4 to 7 with the earlier byte lower, and the fields in
the two-word form. -/
def Obligations.WireBytesAreLittleEndian : Prop :=
  (∀ (p : Params) (b0 b1 b2 b3 b4 b5 b6 b7 : Byte) (rest : List Byte), ∃ w0 w1 : Word,
    decode p (b0 :: b1 :: b2 :: b3 :: b4 :: b5 :: b6 :: b7 :: rest) = .ok (decodeWords p w0 w1, rest) ∧
    w0.toNat = b0.toNat + 256 * b1.toNat + 65536 * b2.toNat + 16777216 * b3.toNat ∧
    w1.toNat = b4.toNat + 256 * b5.toNat + 65536 * b6.toNat + 16777216 * b7.toNat ∧
    (decodeSetup w0 w1).wValue.toNat = b2.toNat + 256 * b3.toNat ∧
    (decodeSetup w0 w1).wIndex.toNat = b4.toNat + 256 * b5.toNat ∧
    (decodeSetup w0 w1).wLength.toNat = b6.toNat + 256 * b7.toNat) ∧
  ∀ w0 w1 : Word,
    (decodeSetup w0 w1).wValue = w0.extractLsb' 16 16 ∧ (decodeSetup w0 w1).wIndex = w1.extractLsb' 0 16 ∧
    (decodeSetup w0 w1).wLength = w1.extractLsb' 16 16 ∧
    (decodeSetup w0 w1).bmRequestType = w0.extractLsb' 0 8 ∧ (decodeSetup w0 w1).bRequest = w0.extractLsb' 8 8

/-- O5. Under any parameters, for every well-formed instruction, with every operand at every value, decoding the wire
bytes of its encoding gives it back, and leaves the bytes after it (30_encoding.md R81, R86, R98). -/
def Obligations.DecodeOfEncodeIsIdentity : Prop :=
  ∀ (p : Params) (i : Instr) (rest : List Byte), i.wf p = true →
    decode p (packetBytes (encode p i) ++ rest) = .ok (i, rest)

/-- O6. Under any parameters, every pair of words decodes to a well-formed instruction whose encoding is that pair: no
packet is refused, and none loses a bit (30_encoding.md R81, R92; 40_decoder.md R111). -/
def Obligations.EncodeOfDecodeIsIdentity : Prop :=
  ∀ (p : Params) (w0 w1 : Word), (decodeWords p w0 w1).wf p = true ∧ encode p (decodeWords p w0 w1) = (w0, w1)

/-- O7. The match / mask table and the match on the composite key select the same row for every packet, at the
hardware's own parameters; the ordinary rows are pairwise disjoint (30_encoding.md R87, R91; 42_dispatcher.md R141).
The codes in the table's patterns are from general knowledge (log entry 8). -/
def Obligations.OpcodeTableSelectsTheDecodedRow : Prop :=
  (∀ w0 w1 : Word,
    (∀ row ∈ opcodeRows,
      row.selects (packetOf w0 w1) = true ↔ (decodeWords Config.params w0 w1).mnemonic = row.mnemonic) ∧
    (tableRow (packetOf w0 w1)).mnemonic = (decodeWords Config.params w0 w1).mnemonic) ∧
  ∀ pkt : Packet, ∀ r1 ∈ opcodeRows, ∀ r2 ∈ opcodeRows, r1.selects pkt = true → r2.selects pkt = true → r1 = r2

/-- O8. Words written out from the spec's encodings decode to the requests they stand for (95_test_vectors.md). The
Standard request codes and class codes in them are from general knowledge (log entry 8). -/
def Obligations.SampleWordsDecode : Prop :=
  decodeWords Config.params 0x01000680 0x00400000 = .getDescriptorDevice 0x00 0x0000 0x0040 ∧
  decodeWords Config.params 0x03020680 0x00FF0409 = .getDescriptorString 0x02 0x0409 0x00FF ∧
  decodeWords Config.params 0x06000680 0x000A0000 = .getDescriptorOther 0x06 0x00 0x0000 0x000A ∧
  decodeWords Config.params 0x00000082 0x00020081 = .getStatusEp 0x0000 0x0081 0x0002 ∧
  decodeWords Config.params 0x00010900 0x00080007 = .setConfiguration 0x0007 0x0008 ∧
  decodeWords Config.params 0x01010900 0x00000000 = .rejectDefault 0x00 0x09 0x0101 0x0000 0x0000 ∧
  decodeWords Config.params 0x0000AEC1 0x000A0005 = .msExtProps 0x0000 0x000A ∧
  decodeWords Config.params 0x1234FF41 0x00010009 = .vendorWrite 0x1234 0x0009 0x0001

/-! ### The step -/

/-- O9. When a setup packet is the next event, a step is the meaning of the request it decodes to under the parameters
of the state, in the state in which the event has been taken off the list, its answers are those of the step, and the
index of the next event has advanced (42_dispatcher.md R140, 10_state.md R22). -/
def Obligations.StepRunsTheDecodedRequest : Prop :=
  ∀ (s : State) (w0 w1 : Word) (a : Answers) (rest : List Input) (i : Instr),
    s.pending = ⟨.setup w0 w1, a⟩ :: rest → decodeWords s.params w0 w1 = i →
    step s = exec i { s with pending := rest, answers := a, eventIndex := s.eventIndex + 1 }

/-- O10. With no event left a step changes nothing. The model's reading (log entry 1) of the sentence of
70_reset_and_hazards.md that the block is idle and does nothing until the transport calls it. -/
def Obligations.StepWithoutEventIsIdle : Prop :=
  ∀ s : State, s.pending = [] → step s = .next s

/-- O11. BUS_RESET (45_bus_events.md, R200 and R201): the one call `notifyApplicationStop`, whatever the state;
`EP0BUF`, `CONFIG` and `RXLEN` are unchanged. The clause `outcome := none` is the model's choice (log entry 10): a bus
event has no outcome value, and the model shows that as none. -/
def Obligations.BusResetOnlyNotifiesStop : Prop :=
  ∀ (s : State) (aux : Nat) (a : Answers) (rest : List Input), s.pending = ⟨.bus .reset aux, a⟩ :: rest →
    step s = .next { s with pending := rest, answers := a, eventIndex := s.eventIndex + 1,
                            trace := s.trace ++ [.notifyApplicationStop], outcome := none }

/-- O12. Any other bus event: no call, no state change. The spec's own decision D21 (45_bus_events.md, the sentence
"Any event kind other than reset: no environment call, no state change"; log entry 9). The clause `outcome := none` is
the model's choice (log entry 10): a bus event has no outcome value, and the model shows that as none. -/
def Obligations.OtherBusEventsDoNothing : Prop :=
  ∀ (s : State) (aux : Nat) (a : Answers) (rest : List Input), s.pending = ⟨.bus .other aux, a⟩ :: rest →
    step s = .next { s with pending := rest, answers := a, eventIndex := s.eventIndex + 1, outcome := none }

/-! ### GET_DESCRIPTOR -/

/-- O13. LOOKUP (41_descriptor_store.md section 2): which keys hit which slot, under any parameters and for both
values of `SUBINDEX_STRICT`; every other key, and an empty slot, misses. That Device and Configuration miss at speed
Unknown is the spec's own decision D6, that strings hit at every speed its decision D8 (log entry 9). -/
def Obligations.LookupHitsExactlyTheListedKeys : Prop :=
  ∀ (p : Params) (rom : Rom) (cls idx : Byte) (spd : Speed) (slot : Slot),
    lookup p rom cls idx spd = some slot ↔
      (rom.slot slot).isSome = true ∧
      ((cls = p.dtDevice ∧ (idx = 0 ∨ p.subindexStrict = false) ∧
         ((spd = .high ∧ slot = .devHs) ∨ (spd = .super ∧ slot = .devSs))) ∨
       (cls = p.dtConfiguration ∧ (idx = 0 ∨ p.subindexStrict = false) ∧
         ((spd = .high ∧ slot = .cfgHs) ∨ (spd = .super ∧ slot = .cfgSs))) ∨
       (cls = p.dtBos ∧ (idx = 0 ∨ p.subindexStrict = false) ∧ slot = .bos) ∨
       (cls = p.dtString ∧
         ((idx = p.strLangidIndex ∧ slot = .strLangid) ∨
          (idx = p.strManufacturerIndex ∧ slot = .strManufacturer) ∨
          (idx = p.strProductIndex ∧ slot = .strProduct) ∨
          (idx = p.strSerialIndex ∧ slot = .strSerial) ∨
          (idx = p.msOsStringIndex ∧ slot = .strMsos))))

/-- O14. DECLEN by slot (41_descriptor_store.md section 2; for the two Microsoft slots the spec's own decision D9, log
entry 9). -/
def Obligations.DeclaredLengthBySlotKind : Prop :=
  (∀ b : Blob, ∀ s ∈ [Slot.devHs, .devSs, .strLangid, .strManufacturer, .strProduct, .strSerial, .strMsos],
    declLen s b = (b.getD 0 0).toNat) ∧
  (∀ b : Blob, ∀ s ∈ [Slot.cfgHs, .cfgSs, .bos], declLen s b = (b.getD 2 0).toNat + 256 * (b.getD 3 0).toNat) ∧
  ∀ b : Blob, ∀ s ∈ [Slot.msCompatId, .msExtProps], declLen s b = b.length

/-- O15. Every table the model accepts is well formed: a filled slot has its length bytes, and stores at least its
declared length (the spec's own decision D32 in 41_descriptor_store.md; log entries 7 and 9). -/
def Obligations.AcceptedTablesAreWellFormed : Prop :=
  ∀ (rom : Rom) (s : Slot) (b : Blob), rom.slot s = some b →
    (s.kind = .single → 1 ≤ b.length) ∧ (s.kind = .composite → 4 ≤ b.length) ∧ declLen s b ≤ b.length

/-- O16. GET_DESCRIPTOR (42_dispatcher.md section 3), as the whole step body of every packet with `bmRequestType` 0x80
and `bRequest` `RQ_GET_DESCRIPTOR`, for every class: one speed query, the lookup, then a reject on a miss or the
truncated blob, and a reject when the send fails; nothing else changes. That the speed is queried for every class,
also for one that then misses, is the spec's own decision D34; `SUBINDEX_STRICT`, which the lookup takes from the
parameters, is true at reset by its decision D7 (log entry 9). -/
def Obligations.GetDescriptorServesTheLookup : Prop :=
  ∀ (w0 w1 : Word) (s : State), w0.extractLsb' 0 8 = 0x80 → w0.extractLsb' 8 8 = s.params.rqGetDescriptor →
    (lookup s.params s.rom (w0.extractLsb' 24 8) (w0.extractLsb' 16 8) s.answers.speed = none →
      handleSetup w0 w1 s = .next { s with
        trace := s.trace ++ [.queryLinkSpeed s.answers.speed, .reject],
        outcome := some (.reject .lookupMiss) }) ∧
    ∀ (slot : Slot) (b : Blob),
      lookup s.params s.rom (w0.extractLsb' 24 8) (w0.extractLsb' 16 8) s.answers.speed = some slot →
      s.rom.slot slot = some b →
      (s.answers.send = .ok → handleSetup w0 w1 s = .next { s with
        trace := s.trace ++ [.queryLinkSpeed s.answers.speed,
          .sendResponse (b.take (min (declLen slot b) (w1.extractLsb' 16 16).toNat)) .ok],
        outcome := some (.respond (b.take (min (declLen slot b) (w1.extractLsb' 16 16).toNat))) }) ∧
      (s.answers.send = .fail → handleSetup w0 w1 s = .next { s with
        trace := s.trace ++ [.queryLinkSpeed s.answers.speed,
          .sendResponse (b.take (min (declLen slot b) (w1.extractLsb' 16 16).toNat)) .fail, .reject],
        outcome := some (.reject .transport) })

/-- O17. A device descriptor is selected by the link speed: High gives `DEV_HS`, Super gives `DEV_SS`, each truncated
to its first byte and to `L`, at sub-index 0, or at any where `SUBINDEX_STRICT` is false (41_descriptor_store.md and
42_dispatcher.md; decision D7, log entry 9). The completion of GET_DESCRIPTOR.DEVICE. -/
def Obligations.DeviceDescriptorIsSpeedSelected : Prop :=
  ∀ (s : State) (idx : Byte) (wIndex wLength : Half) (b : Blob), (idx = 0 ∨ s.params.subindexStrict = false) →
    ((s.answers.speed = .high ∧ s.rom.slot .devHs = some b) ∨ (s.answers.speed = .super ∧ s.rom.slot .devSs = some b)) →
    s.answers.send = .ok →
    exec (.getDescriptorDevice idx wIndex wLength) s = .next { s with
      trace := s.trace ++ [.queryLinkSpeed s.answers.speed,
        .sendResponse (b.take (min (b.getD 0 0).toNat wLength.toNat)) .ok],
      outcome := some (.respond (b.take (min (b.getD 0 0).toNat wLength.toNat))) }

/-- O18. A configuration descriptor set is selected by the link speed and truncated to its little-endian total length
at offset 2 and to `L`, at sub-index 0, or at any where `SUBINDEX_STRICT` is false (41_descriptor_store.md sections 2
and 3; decision D7, log entry 9). The completion of GET_DESCRIPTOR.CONFIGURATION. -/
def Obligations.ConfigurationDescriptorIsSpeedSelected : Prop :=
  ∀ (s : State) (idx : Byte) (wIndex wLength : Half) (b : Blob), (idx = 0 ∨ s.params.subindexStrict = false) →
    ((s.answers.speed = .high ∧ s.rom.slot .cfgHs = some b) ∨ (s.answers.speed = .super ∧ s.rom.slot .cfgSs = some b)) →
    s.answers.send = .ok →
    exec (.getDescriptorConfiguration idx wIndex wLength) s = .next { s with
      trace := s.trace ++ [.queryLinkSpeed s.answers.speed,
        .sendResponse (b.take (min ((b.getD 2 0).toNat + 256 * (b.getD 3 0).toNat) wLength.toNat)) .ok],
      outcome := some (.respond (b.take (min ((b.getD 2 0).toNat + 256 * (b.getD 3 0).toNat) wLength.toNat))) }

/-- O19. The BOS set hits at every speed, at sub-index 0, or at any where `SUBINDEX_STRICT` is false
(41_descriptor_store.md section 2; decision D7, log entry 9). The completion of GET_DESCRIPTOR.BOS. -/
def Obligations.BosDescriptorIsSpeedIndependent : Prop :=
  ∀ (s : State) (idx : Byte) (wIndex wLength : Half) (b : Blob), (idx = 0 ∨ s.params.subindexStrict = false) →
    s.rom.slot .bos = some b → s.answers.send = .ok →
    exec (.getDescriptorBos idx wIndex wLength) s = .next { s with
      trace := s.trace ++ [.queryLinkSpeed s.answers.speed,
        .sendResponse (b.take (min ((b.getD 2 0).toNat + 256 * (b.getD 3 0).toNat) wLength.toNat)) .ok],
      outcome := some (.respond (b.take (min ((b.getD 2 0).toNat + 256 * (b.getD 3 0).toNat) wLength.toNat))) }

/-- O20. The five string sub-indices hit at every speed and for every language id (the spec's own decision D8 in
41_descriptor_store.md, and case (f) of the corner cases in 42_dispatcher.md; log entry 9). The completion of
GET_DESCRIPTOR.STRING. -/
def Obligations.StringDescriptorsIgnoreSpeedAndLanguage : Prop :=
  ∀ (s : State) (idx : Byte) (slot : Slot) (wIndex wLength : Half) (b : Blob),
    (idx, slot) ∈ [(s.params.strLangidIndex, Slot.strLangid), (s.params.strManufacturerIndex, .strManufacturer),
      (s.params.strProductIndex, .strProduct), (s.params.strSerialIndex, .strSerial),
      (s.params.msOsStringIndex, .strMsos)] →
    s.rom.slot slot = some b → s.answers.send = .ok →
    exec (.getDescriptorString idx wIndex wLength) s = .next { s with
      trace := s.trace ++ [.queryLinkSpeed s.answers.speed,
        .sendResponse (b.take (min (b.getD 0 0).toNat wLength.toNat)) .ok],
      outcome := some (.respond (b.take (min (b.getD 0 0).toNat wLength.toNat))) }

/-- O21. GET_DESCRIPTOR.OTHER: for a class code with no row of its own the speed is queried (decision D34, log entry
9) and the request is rejected with a lookup miss, for every sub-index, speed and length (42_dispatcher.md, corner
case (d)). The completion of GET_DESCRIPTOR.OTHER: the reject is its own effect. -/
def Obligations.OtherDescriptorClassesMiss : Prop :=
  ∀ (s : State) (cls idx : Byte) (wIndex wLength : Half),
    cls ≠ s.params.dtDevice → cls ≠ s.params.dtConfiguration → cls ≠ s.params.dtString → cls ≠ s.params.dtBos →
    exec (.getDescriptorOther cls idx wIndex wLength) s = .next { s with
      trace := s.trace ++ [.queryLinkSpeed s.answers.speed, .reject],
      outcome := some (.reject .lookupMiss) }

/-- O22. Where GET_DESCRIPTOR rejects with a miss: Device and Configuration at speed Unknown (decision D6), Device,
Configuration and BOS at a sub-index other than 0 where `SUBINDEX_STRICT` is true (decision D7), String at a sub-index
that is not listed (42_dispatcher.md, corner cases (c) and (e); log entry 9). -/
def Obligations.UnknownKeysAreRejected : Prop :=
  ∀ (s : State) (idx : Byte) (wIndex wLength : Half) (i : Instr),
    ((i = .getDescriptorDevice idx wIndex wLength ∨ i = .getDescriptorConfiguration idx wIndex wLength) ∧
        (s.answers.speed = .unknown ∨ idx ≠ 0 ∧ s.params.subindexStrict = true) ∨
      i = .getDescriptorBos idx wIndex wLength ∧ idx ≠ 0 ∧ s.params.subindexStrict = true ∨
      i = .getDescriptorString idx wIndex wLength ∧ idx ∉ [s.params.strLangidIndex, s.params.strManufacturerIndex,
        s.params.strProductIndex, s.params.strSerialIndex, s.params.msOsStringIndex]) →
    exec i s = .next { s with
      trace := s.trace ++ [.queryLinkSpeed s.answers.speed, .reject],
      outcome := some (.reject .lookupMiss) }

/-! ### GET_CONFIGURATION and GET_STATUS -/

/-- O23. GET_CONFIGURATION (42_dispatcher.md section 4; staging and length are the spec's own decisions D11 and D12,
log entry 9): encoding, staging, the reply, and the reject when the send fails. The premise `Sized` is the part of the
invariant (O45, O46) that says the buffer has its `EP0BUF_CAP` registers. -/
def Obligations.GetConfigurationStagesAndSendsConfig : Prop :=
  (∀ (p : Params) (w0 w1 : Word), w0.extractLsb' 0 8 = 0x80 → w0.extractLsb' 8 8 = p.rqGetConfiguration →
    decodeWords p w0 w1 =
    .getConfiguration (w0.extractLsb' 16 16) (w1.extractLsb' 0 16) (w1.extractLsb' 16 16)) ∧
  ∀ (s : State) (wValue wIndex wLength : Half), s.Sized →
    (s.answers.send = .ok → exec (.getConfiguration wValue wIndex wLength) s = .next { s with
      ep0buf := s.ep0buf.set 0 s.config,
      trace := s.trace ++ [.sendResponse ([s.config].take (min s.params.getConfigurationLen wLength.toNat)) .ok],
      outcome := some (.respond ([s.config].take (min s.params.getConfigurationLen wLength.toNat))) }) ∧
    (s.answers.send = .fail → exec (.getConfiguration wValue wIndex wLength) s = .next { s with
      ep0buf := s.ep0buf.set 0 s.config,
      trace := s.trace ++ [
        .sendResponse ([s.config].take (min s.params.getConfigurationLen wLength.toNat)) .fail, .reject],
      outcome := some (.reject .transport) })

/-- O24. GET_STATUS.DEV (42_dispatcher.md section 5; decisions D10 and D11, log entry 9): two zero bytes staged
always, `min(GET_STATUS_LEN, L)` of them sent. The premise `Sized` is the part of the invariant (O45, O46) that says
the buffer has its `EP0BUF_CAP` registers. -/
def Obligations.GetStatusDeviceSendsZeros : Prop :=
  (∀ (p : Params) (w0 w1 : Word), w0.extractLsb' 0 8 = 0x80 → w0.extractLsb' 8 8 = p.rqGetStatus →
    decodeWords p w0 w1 =
    .getStatusDev (w0.extractLsb' 16 16) (w1.extractLsb' 0 16) (w1.extractLsb' 16 16)) ∧
  ∀ (s : State) (wValue wIndex wLength : Half), s.Sized →
    (s.answers.send = .ok → exec (.getStatusDev wValue wIndex wLength) s = .next { s with
      ep0buf := (s.ep0buf.set 0 0x00).set 1 0x00,
      trace := s.trace ++ [.sendResponse (List.replicate (min s.params.getStatusLen wLength.toNat) 0x00) .ok],
      outcome := some (.respond (List.replicate (min s.params.getStatusLen wLength.toNat) 0x00)) }) ∧
    (s.answers.send = .fail → exec (.getStatusDev wValue wIndex wLength) s = .next { s with
      ep0buf := (s.ep0buf.set 0 0x00).set 1 0x00,
      trace := s.trace ++ [
        .sendResponse (List.replicate (min s.params.getStatusLen wLength.toNat) 0x00) .fail, .reject],
      outcome := some (.reject .transport) })

/-- O25. GET_STATUS.IF (42_dispatcher.md section 5; decisions D10, D11, D14, log entry 9): as GET_STATUS.DEV, for
every interface number. The premise `Sized` is the part of the invariant (O45, O46) that says the buffer has its
`EP0BUF_CAP` registers. -/
def Obligations.GetStatusInterfaceSendsZeros : Prop :=
  (∀ (p : Params) (w0 w1 : Word), w0.extractLsb' 0 8 = 0x81 → w0.extractLsb' 8 8 = p.rqGetStatus →
    decodeWords p w0 w1 =
    .getStatusIf (w0.extractLsb' 16 16) (w1.extractLsb' 0 16) (w1.extractLsb' 16 16)) ∧
  ∀ (s : State) (wValue wIndex wLength : Half), s.Sized →
    (s.answers.send = .ok → exec (.getStatusIf wValue wIndex wLength) s = .next { s with
      ep0buf := (s.ep0buf.set 0 0x00).set 1 0x00,
      trace := s.trace ++ [.sendResponse (List.replicate (min s.params.getStatusLen wLength.toNat) 0x00) .ok],
      outcome := some (.respond (List.replicate (min s.params.getStatusLen wLength.toNat) 0x00)) }) ∧
    (s.answers.send = .fail → exec (.getStatusIf wValue wIndex wLength) s = .next { s with
      ep0buf := (s.ep0buf.set 0 0x00).set 1 0x00,
      trace := s.trace ++ [
        .sendResponse (List.replicate (min s.params.getStatusLen wLength.toNat) 0x00) .fail, .reject],
      outcome := some (.reject .transport) })

/-- O26. GET_STATUS.EP (42_dispatcher.md section 5; decisions D10, D11, D13, log entry 9): the whole `wIndex` is
passed to the query, bit 0 of byte 0 is the answer, every other bit is zero. The premise `Sized` is the part of the
invariant (O45, O46) that says the buffer has its `EP0BUF_CAP` registers. -/
def Obligations.GetStatusEndpointSendsTheStallBit : Prop :=
  (∀ (p : Params) (w0 w1 : Word), w0.extractLsb' 0 8 = 0x82 → w0.extractLsb' 8 8 = p.rqGetStatus →
    decodeWords p w0 w1 =
    .getStatusEp (w0.extractLsb' 16 16) (w1.extractLsb' 0 16) (w1.extractLsb' 16 16)) ∧
  ∀ (s : State) (wValue wIndex wLength : Half) (stall : Byte), s.Sized →
    (s.answers.stalled = true ∧ stall = 0x01 ∨ s.answers.stalled = false ∧ stall = 0x00) →
    (s.answers.send = .ok → exec (.getStatusEp wValue wIndex wLength) s = .next { s with
      ep0buf := (s.ep0buf.set 0 stall).set 1 0x00,
      trace := s.trace ++ [.queryEndpointStallState wIndex s.answers.stalled,
        .sendResponse ([stall, 0x00].take (min s.params.getStatusLen wLength.toNat)) .ok],
      outcome := some (.respond ([stall, 0x00].take (min s.params.getStatusLen wLength.toNat))) }) ∧
    (s.answers.send = .fail → exec (.getStatusEp wValue wIndex wLength) s = .next { s with
      ep0buf := (s.ep0buf.set 0 stall).set 1 0x00,
      trace := s.trace ++ [.queryEndpointStallState wIndex s.answers.stalled,
        .sendResponse ([stall, 0x00].take (min s.params.getStatusLen wLength.toNat)) .fail, .reject],
      outcome := some (.reject .transport) })

/-! ### Requests that are always rejected -/

/-- O27. SET_FEATURE, SET_SEL, SET_ISOC_DELAY (42_dispatcher.md R153, R154, R155): rejected as unsupported for every
operand, with no call but `reject` and nothing written. The reject is their own effect. -/
def Obligations.RefusedRequestsReject : Prop :=
  (∀ (p : Params) (w0 w1 : Word),
    (w0.extractLsb' 0 8 = 0x00 → w0.extractLsb' 8 8 = p.rqSetFeature → decodeWords p w0 w1 =
      .setFeature (w0.extractLsb' 16 16) (w1.extractLsb' 0 16) (w1.extractLsb' 16 16)) ∧
    (w0.extractLsb' 0 8 = 0x00 → w0.extractLsb' 8 8 = p.rqSetSel → decodeWords p w0 w1 =
      .setSel (w0.extractLsb' 16 16) (w1.extractLsb' 0 16) (w1.extractLsb' 16 16)) ∧
    (w0.extractLsb' 0 8 = 0x00 → w0.extractLsb' 8 8 = p.rqSetIsocDelay → decodeWords p w0 w1 =
      .setIsocDelay (w0.extractLsb' 16 16) (w1.extractLsb' 0 16) (w1.extractLsb' 16 16))) ∧
  ∀ (s : State) (wValue wIndex wLength : Half) (i : Instr),
    i ∈ [Instr.setFeature wValue wIndex wLength, .setSel wValue wIndex wLength, .setIsocDelay wValue wIndex wLength] →
    exec i s = .next { s with trace := s.trace ++ [.reject], outcome := some (.reject .unsupported) }

/-- O28. REJECT_DEFAULT (42_dispatcher.md, section 1 for the ten keys and three guards, section 6 for the effect):
selected exactly when none of them holds; no call but `reject`, nothing written. The reject is its own effect. That
SET_CONFIGURATION is refused for every 16-bit value other than `CONFIG_VALID`, 0x0101 too, rests on the spec's own
decision D17, the guards compare all 16 bits (log entry 9). -/
def Obligations.UnmatchedRequestsReject : Prop :=
  (∀ (p : Params) (w0 w1 : Word) (r : SetupRequest), r = decodeSetup w0 w1 →
    ((r.key ∉ [⟨.standard, .device, .deviceToHost, p.rqGetDescriptor⟩,
        ⟨.standard, .device, .deviceToHost, p.rqGetConfiguration⟩,
        ⟨.standard, .device, .deviceToHost, p.rqGetStatus⟩,
        ⟨.standard, .interface, .deviceToHost, p.rqGetStatus⟩,
        ⟨.standard, .endpoint, .deviceToHost, p.rqGetStatus⟩,
        ⟨.standard, .device, .hostToDevice, p.rqSetFeature⟩,
        ⟨.standard, .device, .hostToDevice, p.rqSetSel⟩,
        ⟨.standard, .device, .hostToDevice, p.rqSetIsocDelay⟩,
        ⟨.vendor, .interface, .deviceToHost, p.vendorReqData⟩,
        ⟨.vendor, .interface, .hostToDevice, p.vendorReqData⟩] ∧
      ¬(r.key = ⟨.standard, .device, .hostToDevice, p.rqSetConfiguration⟩ ∧ r.wValue = p.configValid) ∧
      ¬(r.key = ⟨.vendor, .device, .deviceToHost, p.msVendorCode⟩ ∧ r.wIndex = p.msCompatIdIndex) ∧
      ¬(r.key = ⟨.vendor, .interface, .deviceToHost, p.msVendorCode⟩ ∧ r.wIndex = p.msExtPropIndex)) ↔
    decodeWords p w0 w1 = .rejectDefault r.bmRequestType r.bRequest r.wValue r.wIndex r.wLength)) ∧
  (∀ (p : Params) (w0 w1 : Word), w0.extractLsb' 0 8 = 0x00 → w0.extractLsb' 8 8 = p.rqSetConfiguration →
    w0.extractLsb' 16 16 ≠ p.configValid →
    decodeWords p w0 w1 = .rejectDefault 0x00 p.rqSetConfiguration (w0.extractLsb' 16 16) (w1.extractLsb' 0 16)
      (w1.extractLsb' 16 16)) ∧
  ∀ (s : State) (bm rq : Byte) (wValue wIndex wLength : Half),
    exec (.rejectDefault bm rq wValue wIndex wLength) s = .next { s with
      trace := s.trace ++ [.reject], outcome := some (.reject .unmatched) }

/-! ### SET_CONFIGURATION -/

/-- O29. SET_CONFIGURATION (43_configuration.md; the order is the spec's own decision D15, the missing guard D16, log
entry 9): encoding, the three calls in order, `CONFIG <- 1` only when the acknowledge succeeded, else a reject with
`CONFIG` unchanged; from every state. -/
def Obligations.SetConfigurationCommitsOnAcknowledge : Prop :=
  (∀ (p : Params) (w0 w1 : Word), w0.extractLsb' 0 8 = 0x00 → w0.extractLsb' 8 8 = p.rqSetConfiguration →
    w0.extractLsb' 16 16 = p.configValid → decodeWords p w0 w1 =
    .setConfiguration (w1.extractLsb' 0 16) (w1.extractLsb' 16 16)) ∧
  ∀ (s : State) (wIndex wLength : Half),
    (s.answers.ack = .ok → exec (.setConfiguration wIndex wLength) s = .next { s with
      config := 1,
      trace := s.trace ++ [.disableLowPower, .notifyApplicationStart, .acknowledge .ok],
      outcome := some .acknowledge }) ∧
    (s.answers.ack = .fail → exec (.setConfiguration wIndex wLength) s = .next { s with
      trace := s.trace ++ [.disableLowPower, .notifyApplicationStart, .acknowledge .fail, .reject],
      outcome := some (.reject .transport) })

/-! ### Vendor requests -/

/-- O30. MS_COMPAT_ID (44_vendor_channel.md section 2): encoding with its 16-bit guard, the stored bytes truncated to
`L`, the reject on an empty slot, the reject when the send fails. That the declared length is the stored length, and
that an empty slot misses, is the spec's own decision D9 (log entry 9). -/
def Obligations.MsCompatIdSendsTheStoredBlob : Prop :=
  (∀ (p : Params) (w0 w1 : Word), w0.extractLsb' 0 8 = 0xC0 → w0.extractLsb' 8 8 = p.msVendorCode →
    w1.extractLsb' 0 16 = p.msCompatIdIndex → decodeWords p w0 w1 =
    .msCompatId (w0.extractLsb' 16 16) (w1.extractLsb' 16 16)) ∧
  ∀ (s : State) (wValue wLength : Half),
    (s.rom.slot .msCompatId = none → exec (.msCompatId wValue wLength) s = .next { s with
      trace := s.trace ++ [.reject], outcome := some (.reject .lookupMiss) }) ∧
    ∀ b : Blob, s.rom.slot .msCompatId = some b →
      (s.answers.send = .ok → exec (.msCompatId wValue wLength) s = .next { s with
        trace := s.trace ++ [.sendResponse (b.take (min b.length wLength.toNat)) .ok],
        outcome := some (.respond (b.take (min b.length wLength.toNat))) }) ∧
      (s.answers.send = .fail → exec (.msCompatId wValue wLength) s = .next { s with
        trace := s.trace ++ [.sendResponse (b.take (min b.length wLength.toNat)) .fail, .reject],
        outcome := some (.reject .transport) })

/-- O31. MS_EXT_PROPS (44_vendor_channel.md section 2): as MS_COMPAT_ID, for target Interface and selector
`MS_EXT_PROP_INDEX`; the stored length as declared length and the miss on an empty slot are the spec's own decision D9
(log entry 9). -/
def Obligations.MsExtPropsSendsTheStoredBlob : Prop :=
  (∀ (p : Params) (w0 w1 : Word), w0.extractLsb' 0 8 = 0xC1 → w0.extractLsb' 8 8 = p.msVendorCode →
    w1.extractLsb' 0 16 = p.msExtPropIndex → decodeWords p w0 w1 =
    .msExtProps (w0.extractLsb' 16 16) (w1.extractLsb' 16 16)) ∧
  ∀ (s : State) (wValue wLength : Half),
    (s.rom.slot .msExtProps = none → exec (.msExtProps wValue wLength) s = .next { s with
      trace := s.trace ++ [.reject], outcome := some (.reject .lookupMiss) }) ∧
    ∀ b : Blob, s.rom.slot .msExtProps = some b →
      (s.answers.send = .ok → exec (.msExtProps wValue wLength) s = .next { s with
        trace := s.trace ++ [.sendResponse (b.take (min b.length wLength.toNat)) .ok],
        outcome := some (.respond (b.take (min b.length wLength.toNat))) }) ∧
      (s.answers.send = .fail → exec (.msExtProps wValue wLength) s = .next { s with
        trace := s.trace ++ [.sendResponse (b.take (min b.length wLength.toNat)) .fail, .reject],
        outcome := some (.reject .transport) })

/-- O32. VENDOR_READ (44_vendor_channel.md section 3; the length is the spec's own decision D19, log entry 9):
`EP0BUF[0 .. min(EP0BUF_CAP, L)-1]` as it is, whatever `RXLEN` holds; nothing is written. -/
def Obligations.VendorReadEchoesTheBuffer : Prop :=
  (∀ (p : Params) (w0 w1 : Word), w0.extractLsb' 0 8 = 0xC1 → w0.extractLsb' 8 8 = p.vendorReqData →
    decodeWords p w0 w1 =
    .vendorRead (w0.extractLsb' 16 16) (w1.extractLsb' 0 16) (w1.extractLsb' 16 16)) ∧
  ∀ (s : State) (wValue wIndex wLength : Half),
    (s.answers.send = .ok → exec (.vendorRead wValue wIndex wLength) s = .next { s with
      trace := s.trace ++ [.sendResponse (s.ep0buf.take (min s.params.ep0bufCap wLength.toNat)) .ok],
      outcome := some (.respond (s.ep0buf.take (min s.params.ep0bufCap wLength.toNat))) }) ∧
    (s.answers.send = .fail → exec (.vendorRead wValue wIndex wLength) s = .next { s with
      trace := s.trace ++ [.sendResponse (s.ep0buf.take (min s.params.ep0bufCap wLength.toNat)) .fail, .reject],
      outcome := some (.reject .transport) })

/-- O33. VENDOR_WRITE when the receive succeeds (44_vendor_channel.md section 3; the spec's own decision D18, log
entry 9): at most `EP0BUF_CAP` bytes are asked for, the `k` received bytes overwrite `EP0BUF[0 .. k-1]`, the other
bytes keep their old values, `RXLEN <- k`, `Acknowledge`. Of a host that has more, the first bytes count (log entry
12). The premise `Sized` is the part of the invariant (O45, O46) that says the buffer has its `EP0BUF_CAP` registers.
-/
def Obligations.VendorWriteStoresTheReceivedBytes : Prop :=
  (∀ (p : Params) (w0 w1 : Word), w0.extractLsb' 0 8 = 0x41 → w0.extractLsb' 8 8 = p.vendorReqData →
    decodeWords p w0 w1 =
    .vendorWrite (w0.extractLsb' 16 16) (w1.extractLsb' 0 16) (w1.extractLsb' 16 16)) ∧
  ∀ (s : State) (wValue wIndex wLength : Half) (data : List Byte), s.Sized →
    s.answers.receive = .ok → data = s.answers.received.take (min s.params.ep0bufCap wLength.toNat) →
    ∃ t, exec (.vendorWrite wValue wIndex wLength) s = .next t ∧
      (∀ k < data.length, t.ep0buf[k]? = data[k]?) ∧
      (∀ k, data.length ≤ k → t.ep0buf[k]? = s.ep0buf[k]?) ∧
      t.rxlen = data.length ∧
      t = { s with ep0buf := t.ep0buf, rxlen := t.rxlen,
                   trace := s.trace ++ [.receiveData (min s.params.ep0bufCap wLength.toNat) .ok data],
                   outcome := some .acknowledge }

/-- O34. VENDOR_WRITE when the receive fails (44_vendor_channel.md section 3; decision D18, log entry 9): a transport
reject; the bytes outside the window `EP0BUF[0 .. n-1]` keep their old values, the window and `RXLEN`, at most
`EP0BUF_CAP`, hold whatever they hold (free values, log entry 6: the statement is true for each of their values). -/
def Obligations.FailedVendorWriteRejectsAndKeepsTheTail : Prop :=
  ∀ (s : State) (wValue wIndex wLength : Half) (data : List Byte),
    s.answers.receive = .fail → data = s.answers.received.take (min s.params.ep0bufCap wLength.toNat) →
    ∃ t, exec (.vendorWrite wValue wIndex wLength) s = .next t ∧
      t.ep0buf.length = s.ep0buf.length ∧
      (∀ k, min s.params.ep0bufCap wLength.toNat ≤ k → t.ep0buf[k]? = s.ep0buf[k]?) ∧
      t.rxlen ≤ s.params.ep0bufCap ∧
      t = { s with ep0buf := t.ep0buf, rxlen := t.rxlen,
                   trace := s.trace ++ [.receiveData (min s.params.ep0bufCap wLength.toNat) .fail data, .reject],
                   outcome := some (.reject .transport) }

/-! ### Frames -/

/-- O35. The frame of the requests that write nothing: GET_DESCRIPTOR (five rows), SET_FEATURE, SET_SEL,
SET_ISOC_DELAY, MS_COMPAT_ID, MS_EXT_PROPS, VENDOR_READ, REJECT_DEFAULT (10_state.md R21; 44_vendor_channel.md R183).
Every byte of `EP0BUF`, `CONFIG`, `RXLEN`, `ROM`, the parameters and the environment's part are as before, whatever
the answers; the trace only grows. -/
def Obligations.FrameOfRequestsThatWriteNothing : Prop :=
  ∀ (i : Instr) (s t : State), i.writesNothing = true → exec i s = .next t →
    t = { s with trace := t.trace, outcome := t.outcome } ∧ ∃ calls, t.trace = s.trace ++ calls

/-- O36. The frame of the status replies: GET_CONFIGURATION may change `EP0BUF[0]` only, GET_STATUS.DEV, .IF and .EP
may change `EP0BUF[0]` and `EP0BUF[1]` only (10_state.md R21). -/
def Obligations.FrameOfStatusReplies : Prop :=
  ∀ (i : Instr) (wValue wIndex wLength : Half) (s t : State),
    i ∈ [Instr.getConfiguration wValue wIndex wLength, .getStatusDev wValue wIndex wLength,
      .getStatusIf wValue wIndex wLength, .getStatusEp wValue wIndex wLength] →
    exec i s = .next t →
    t = { s with ep0buf := t.ep0buf, trace := t.trace, outcome := t.outcome } ∧
    t.ep0buf.length = s.ep0buf.length ∧
    (∀ k, 2 ≤ k → t.ep0buf[k]? = s.ep0buf[k]?) ∧
    (i = .getConfiguration wValue wIndex wLength → t.ep0buf[1]? = s.ep0buf[1]?)

/-- O37. The frame of SET_CONFIGURATION: every byte of `EP0BUF` and `RXLEN` are as before; `CONFIG` changes only to 1
and only when the acknowledge succeeded (10_state.md section 5). -/
def Obligations.FrameOfSetConfiguration : Prop :=
  ∀ (wIndex wLength : Half) (s t : State), exec (.setConfiguration wIndex wLength) s = .next t →
    t = { s with config := t.config, trace := t.trace, outcome := t.outcome } ∧
    (t.config ≠ s.config → t.config = 1 ∧ s.answers.ack = .ok)

/-- O38. The frame of VENDOR_WRITE, whatever the receive answers: `CONFIG`, `ROM` and every byte of `EP0BUF` from
`min(EP0BUF_CAP, L)` on are as before (10_state.md R21). -/
def Obligations.FrameOfVendorWrite : Prop :=
  ∀ (wValue wIndex wLength : Half) (s t : State), exec (.vendorWrite wValue wIndex wLength) s = .next t →
    t = { s with ep0buf := t.ep0buf, rxlen := t.rxlen, trace := t.trace, outcome := t.outcome } ∧
    t.ep0buf.length = s.ep0buf.length ∧
    ∀ k, min s.params.ep0bufCap wLength.toNat ≤ k → t.ep0buf[k]? = s.ep0buf[k]?

/-! ### Rules about the whole machine -/

/-- O39. No response is longer than the requested length (20_memory.md section 4; for the status replies the spec's
own decisions D10 and D12, log entry 9). -/
def Obligations.ResponsesNeverExceedTheRequestedLength : Prop :=
  ∀ (i : Instr) (s t : State) (bytes : List Byte), exec i s = .next t → t.outcome = some (.respond bytes) →
    bytes.length ≤ i.maxLength.toNat

/-- O40. Every request ends with exactly one outcome, paired with the last call of its step, and `reject` is called
once, last, in a step whose outcome is a reject and in no other (10_state.md section 10, 60_exceptions.md section 2;
the pairing is the spec's own decision D22, log entry 9). -/
def Obligations.OutcomeIsPairedWithTheLastCall : Prop :=
  ∀ (i : Instr) (s t : State), exec i s = .next t →
    ∃ calls o, t.trace = s.trace ++ calls ∧ t.outcome = some o ∧ o.pairedWith calls.getLast? ∧
      calls.count .reject = (if o.hostView = .stalled then 1 else 0)

/-- O41. The environment calls of a step are those of the table of 42_dispatcher.md section 7, which the spec derives,
in its order: a success path when the outcome is no reject, a failure path when it is. -/
def Obligations.CallsFollowTheTable : Prop :=
  ∀ (i : Instr) (s t : State), exec i s = .next t →
    ∃ calls o, t.trace = s.trace ++ calls ∧ t.outcome = some o ∧
      (o.hostView ≠ .stalled → calls.map (·.kind) ∈ i.callPaths.success) ∧
      (o.hostView = .stalled → calls.map (·.kind) ∈ i.callPaths.failure)

/-- O42. Precision of a reject (60_exceptions.md section 2, a table the spec derives): unmatched, unsupported and
lookup-miss rejects leave the state as it was; a transport reject keeps what its rule had already done, row by row of
the table. -/
def Obligations.RejectsArePreciseButForTransport : Prop :=
  ∀ (i : Instr) (s t : State) (c : RejectCause), exec i s = .next t → t.outcome = some (.reject c) →
    (c ≠ .transport → t = { s with trace := t.trace, outcome := t.outcome }) ∧
    (c = .transport →
      (i.writesNothing = true → t = { s with trace := t.trace, outcome := t.outcome }) ∧
      (∀ v ix l, i = .getConfiguration v ix l →
        t = { s with ep0buf := s.ep0buf.set 0 s.config, trace := t.trace, outcome := t.outcome }) ∧
      (∀ v ix l, i = .getStatusDev v ix l ∨ i = .getStatusIf v ix l →
        t = { s with ep0buf := (s.ep0buf.set 0 0).set 1 0, trace := t.trace, outcome := t.outcome }) ∧
      (∀ v ix l, i = .getStatusEp v ix l →
        t = { s with ep0buf := (s.ep0buf.set 0 (if s.answers.stalled then 1 else 0)).set 1 0,
                     trace := t.trace, outcome := t.outcome }) ∧
      (∀ ix l, i = .setConfiguration ix l →
        .disableLowPower ∈ t.trace ∧ .notifyApplicationStart ∈ t.trace ∧
        t = { s with trace := t.trace, outcome := t.outcome }) ∧
      (∀ v ix l, i = .vendorWrite v ix l →
        (∀ k, min s.params.ep0bufCap l.toNat ≤ k → t.ep0buf[k]? = s.ep0buf[k]?) ∧
        t = { s with ep0buf := t.ep0buf, rxlen := t.rxlen, trace := t.trace, outcome := t.outcome }))

/-- O43. Repeating a request that writes nothing, with the same answers, gives the same outcome and leaves the same
buffer, `CONFIG` and `RXLEN` (20_memory.md section 4, R61; 41_descriptor_store.md section 5, R131). This is the
immediate repetition; for GET_DESCRIPTOR with other events in between see O54. -/
def Obligations.ReadsRepeatExactly : Prop :=
  ∀ (i : Instr) (s t : State), i.writesNothing = true → exec i s = .next t →
    ∃ u, exec i t = .next u ∧ u.outcome = t.outcome ∧ u.ep0buf = s.ep0buf ∧ u.config = s.config ∧ u.rxlen = s.rxlen

/-- O44. `CONFIG` gates nothing (42_dispatcher.md section 1, which the spec derives; decision D25, log entry 9): every
request but GET_CONFIGURATION, which sends it, does the same whatever `CONFIG` holds, and SET_CONFIGURATION leaves 1
when acknowledged. A free value of a failed receive is compared with itself (log entry 6). -/
def Obligations.ConfigGatesNoRequest : Prop :=
  ∀ (i : Instr) (s t : State) (c : Byte), (∀ v ix l, i ≠ .getConfiguration v ix l) → exec i s = .next t →
    exec i { s with config := c } = .next { t with
      config := if (∃ ix l, i = .setConfiguration ix l) ∧ s.answers.ack = .ok then 1 else c }

/-! ### Invariants and runs -/

/-- O45. Every step keeps the invariant: `EP0BUF` has `EP0BUF_CAP` registers and `RXLEN` is at most `EP0BUF_CAP`,
`CONFIG` is 0 or 1, it is 1 only after an acknowledge and a start notification, the last outcome is paired with the
last call, and every call stays inside its bounds (10_state.md sections 5 and 10). -/
def Obligations.EveryStepKeepsTheInvariant : Prop :=
  ∀ s t : State, s.Inv → step s = .next t → t.Inv

/-- O46. The invariant is true at reset. Of its clauses `CONFIG` = 0 and the sizes of `EP0BUF` and `RXLEN` are the
spec's (10_state.md sections 2, 5 and 8): the clauses about the outcome and the calls hold because at reset the trace
is empty and the outcome is none, which is the model's choice (log entry 10, beside log entry 5 for its other fields).
-/
def Obligations.ResetMeetsTheInvariant : Prop := State.reset.Inv

/-- O47. `CONFIG` is monotone: over a run of any length, from any state in which it is 1, with any events and any
answers, it stays 1 (10_state.md R25). -/
def Obligations.ConfigStaysOneForever : Prop :=
  ∀ (k : Nat) (s t : State), s.config = 1 → core.run k s = .next t → t.config = 1

/-- O48. No run faults or is refused, every event is served exactly once and in order, and the descriptor table and
the parameters are never written (10_state.md sections 3 and 10; 20_memory.md section 1; log entry 20). The event list
in the state is the model's choice (log entry 1). -/
def Obligations.EveryRunCompletes : Prop :=
  ∀ (k : Nat) (s : State), ∃ t, core.run k s = .next t ∧ t.pending = s.pending.drop k ∧
    t.eventIndex = s.eventIndex + min k s.pending.length ∧ t.rom = s.rom ∧ t.params = s.params

/-- O49. `RXLEN` is not observable (10_state.md section 5, which the spec derives): two runs that start alike but for
`RXLEN` make the same calls with the same answers, have the same outcomes and leave the same `EP0BUF` and `CONFIG`.
The free values of a failed receive are compared with themselves (log entry 6). -/
def Obligations.RxlenIsNeverObservable : Prop :=
  ∀ (k : Nat) (s t : State) (r : Nat), core.run k s = .next t →
    ∃ r', core.run k { s with rxlen := r } = .next { t with rxlen := r' }

/-- O50. Echo (44_vendor_channel.md section 4, which the spec derives): a VENDOR_WRITE that succeeds with `data`, then
any number of events that write no buffer byte, with any answers, then a VENDOR_READ whose send succeeds: the read
responds the data, then the older bytes, cut at `min(EP0BUF_CAP, L)`. That `data` is the first bytes of what the host
has is the model's choice (log entry 12). Events that do write buffer bytes break the echo: see O51. The premise
`Sized` is the part of the invariant (O45, O46) that says the buffer has its `EP0BUF_CAP` registers. -/
def Obligations.VendorChannelEchoes : Prop :=
  ∀ (s : State) (w0 w1 r0 r1 : Word) (a b : Answers) (mid rest : List Input) (data : List Byte), s.Sized →
    s.pending = ⟨.setup w0 w1, a⟩ :: (mid ++ ⟨.setup r0 r1, b⟩ :: rest) →
    w0.extractLsb' 0 8 = 0x41 → w0.extractLsb' 8 8 = s.params.vendorReqData → a.receive = .ok →
    data = a.received.take (min s.params.ep0bufCap (w1.extractLsb' 16 16).toNat) →
    (∀ m ∈ mid, m.event.sparesBuffer s.params = true) →
    r0.extractLsb' 0 8 = 0xC1 → r0.extractLsb' 8 8 = s.params.vendorReqData → b.send = .ok →
    ∃ t, core.run (mid.length + 2) s = .next t ∧
      t.outcome = some (.respond
        ((data ++ s.ep0buf.drop data.length).take (min s.params.ep0bufCap (r1.extractLsb' 16 16).toNat)))

/-- O51. The echo is broken by a status request (44_vendor_channel.md section 4, 70_reset_and_hazards.md section 3):
whatever `wLength` is and whatever the send answers, GET_STATUS.DEV, .IF and .EP leave their reply in `EP0BUF[0]` and
`EP0BUF[1]`, and GET_CONFIGURATION leaves `CONFIG` in `EP0BUF[0]`. The premise `Sized` is the part of the invariant
(O45, O46) that says the buffer has its `EP0BUF_CAP` registers. -/
def Obligations.StatusRequestsClobberTheBuffer : Prop :=
  ∀ (s t : State) (v ix l : Half), s.Sized →
    ((exec (.getStatusDev v ix l) s = .next t ∨ exec (.getStatusIf v ix l) s = .next t) →
      t.ep0buf[0]? = some 0 ∧ t.ep0buf[1]? = some 0) ∧
    (exec (.getStatusEp v ix l) s = .next t →
      t.ep0buf[0]? = some (if s.answers.stalled then 1 else 0) ∧ t.ep0buf[1]? = some 0) ∧
    (exec (.getConfiguration v ix l) s = .next t → t.ep0buf[0]? = some s.config)

/-! ### Parameters -/

/-- O52. The parameters at reset are the values of the table in 00_scope.md section 4. The request and class codes are
from general knowledge and the other literals unaudited (log entry 8), `SUBINDEX_STRICT` is decision D7 (log entry 9),
`TRACE_ALL_REQUESTS` is open (log entry 14); `ROM`, the last row, is the open field of its own (log entry 7). -/
def Obligations.ResetTakesTheHardwaresParameters : Prop :=
  State.reset.params.toParamTable = {
    ep0bufCap := 64, vendorReqData := 0xFF, msVendorCode := 0xAE, msOsStringIndex := 0xEE, msCompatIdIndex := 0x0004,
    msExtPropIndex := 0x0005, configValid := 0x0001, usbVid := 0x04B4, usbPid := 0x0101,
    rqGetStatus := 0x00, rqSetFeature := 0x03, rqGetDescriptor := 0x06, rqGetConfiguration := 0x08,
    rqSetConfiguration := 0x09, rqSetSel := 0x30, rqSetIsocDelay := 0x31,
    dtDevice := 0x01, dtConfiguration := 0x02, dtString := 0x03, dtBos := 0x0F,
    strLangidIndex := 0, strManufacturerIndex := 1, strProductIndex := 2, strSerialIndex := 3,
    getStatusLen := 2, getConfigurationLen := 1, subindexStrict := true,
    traceAllRequests := Config.traceAllRequests, hostTimeoutMs := 1000 }

/-! ### The descriptor table -/

/-- O53. In this device all twelve slots of the descriptor table are filled (41_descriptor_store.md section 1, which the
spec derives): at reset every slot holds some blob, and the blob honours the layout contract. Their contents are open
(log entry 7). -/
def Obligations.ResetTableIsFull : Prop :=
  ∀ slot : Slot, ∃ b, State.reset.rom.slot slot = some b ∧ declLen slot b ≤ b.length ∧
    (slot.kind = .single → 1 ≤ b.length) ∧ (slot.kind = .composite → 4 ≤ b.length)

/-- O54. Idempotence of GET_DESCRIPTOR over a run (41_descriptor_store.md section 5): served in state `s`, then, after any
run of any length with any events and answers, served again with the same speed and the same result of the send, the
same request has the same outcome, so the same bytes. `queryLinkSpeed` is the only call it makes before it decides
(decision D34, log entry 9). -/
def Obligations.GetDescriptorRepeatsOverAnyRun : Prop :=
  ∀ (k : Nat) (s t u v : State) (a : Answers) (i : Instr), i.isGetDescriptor = true →
    exec i s = .next t → core.run k t = .next u → a.speed = s.answers.speed → a.send = s.answers.send →
    exec i { u with answers := a } = .next v →
    v.outcome = t.outcome
end

