-- ==== Sys2Proof/Laws/Bits.lean ====
section
/-! SUPPORT. The packing and unpacking of setup packets as arithmetic: a field is a quotient and a remainder, a word is
a sum, and one undoes the other (30_encoding.md R98, 20_memory.md R71). -/

namespace Sys2Proof

/-- A field of a value, as a number (R71: `v[hi:lo] = (v >> lo) mod 2^(hi-lo+1)`). -/
theorem extractLsb'_toNat {n : Nat} (v : BitVec n) (lo len : Nat) :
    (v.extractLsb' lo len).toNat = v.toNat / 2 ^ lo % 2 ^ len := by
  simp [Nat.shiftRight_eq_div_pow]

/-- Word 0 of the encoded fields, as a number (R98). -/
theorem encodeFields_fst_toNat (bm rq : Byte) (v i l : Half) :
    (encodeFields bm rq v i l).1.toNat = bm.toNat + 256 * rq.toNat + 65536 * v.toNat := by
  have := bm.isLt
  have := rq.isLt
  have := v.isLt
  simp only [encodeFields, BitVec.toNat_ofNat]
  omega

/-- Word 1 of the encoded fields, as a number (R98). -/
theorem encodeFields_snd_toNat (bm rq : Byte) (v i l : Half) :
    (encodeFields bm rq v i l).2.toNat = i.toNat + 65536 * l.toNat := by
  have := i.isLt
  have := l.isLt
  simp only [encodeFields, BitVec.toNat_ofNat]
  omega

/-- Decoding the encoded fields gives them back (R98). -/
theorem decodeSetup_encodeFields (bm rq : Byte) (v i l : Half) :
    decodeSetup (encodeFields bm rq v i l).1 (encodeFields bm rq v i l).2 =
      ⟨bm.extractLsb' 7 1, bm.extractLsb' 5 2, bm.extractLsb' 0 5, rq, v, i, l⟩ := by
  have := bm.isLt
  have := rq.isLt
  have := v.isLt
  have := i.isLt
  have := l.isLt
  simp only [decodeSetup, SetupRequest.mk.injEq]
  refine ⟨?_, ?_, ?_, ?_, ?_, ?_, ?_⟩ <;> apply BitVec.eq_of_toNat_eq <;>
    simp only [extractLsb'_toNat, encodeFields_fst_toNat, encodeFields_snd_toNat] <;> omega

/-- The first byte of a decoded packet is the byte `w0[7:0]` (R81). -/
theorem bmRequestType_decodeSetup (w0 w1 : Word) : (decodeSetup w0 w1).bmRequestType = w0.extractLsb' 0 8 := by
  apply BitVec.eq_of_toNat_eq
  simp only [SetupRequest.bmRequestType, decodeSetup, BitVec.toNat_ofNat, extractLsb'_toNat]
  omega

/-- Encoding the decoded fields gives the words back (R98). -/
theorem encodeFields_decodeSetup (w0 w1 : Word) :
    encodeFields (decodeSetup w0 w1).bmRequestType (decodeSetup w0 w1).bRequest (decodeSetup w0 w1).wValue
      (decodeSetup w0 w1).wIndex (decodeSetup w0 w1).wLength = (w0, w1) := by
  have := w0.isLt
  have := w1.isLt
  rw [bmRequestType_decodeSetup]
  ext1 <;> apply BitVec.eq_of_toNat_eq <;>
    simp only [encodeFields_fst_toNat, encodeFields_snd_toNat, decodeSetup, extractLsb'_toNat] <;> omega

/-- The four bytes of a word make the word again (20_memory.md R51). -/
theorem wordOfBytes_wordBytes (w : Word) :
    wordOfBytes (w.extractLsb' 0 8) (w.extractLsb' 8 8) (w.extractLsb' 16 8) (w.extractLsb' 24 8) = w := by
  have := w.isLt
  apply BitVec.eq_of_toNat_eq
  simp only [wordOfBytes, BitVec.toNat_ofNat, extractLsb'_toNat]
  omega

/-- Decoding the wire bytes of two words is decoding the words. -/
theorem decode_packetBytes (p : Params) (ws : Word × Word) (rest : List Byte) :
    decode p (packetBytes ws ++ rest) = .ok (decodeWords p ws.1 ws.2, rest) := by
  simp [packetBytes, wordBytes, decode, wordOfBytes_wordBytes]

/-- A table word's packet is what the decoder reads of it. -/
theorem decodeTableWord_eq (nbits w : Nat) : decodeTableWord nbits w =
    some (decodeWords Config.params (wordsOfTableWord nbits w).1 (wordsOfTableWord nbits w).2) := by
  have h := decode_packetBytes Config.params (wordsOfTableWord nbits w) []
  simp only [List.append_nil] at h
  simp [decodeTableWord, h]

/-- The class byte of a packed `wValue` (R96). -/
theorem classOf_valueOf (cls idx : Byte) : classOf (valueOf cls idx) = cls := by
  have := cls.isLt
  have := idx.isLt
  apply BitVec.eq_of_toNat_eq
  simp only [classOf, valueOf, extractLsb'_toNat, BitVec.toNat_ofNat]
  omega

/-- The sub-index byte of a packed `wValue` (R96). -/
theorem subIndexOf_valueOf (cls idx : Byte) : subIndexOf (valueOf cls idx) = idx := by
  have := cls.isLt
  have := idx.isLt
  apply BitVec.eq_of_toNat_eq
  simp only [subIndexOf, valueOf, extractLsb'_toNat, BitVec.toNat_ofNat]
  omega

/-- A `wValue` is its two bytes packed (R81). -/
theorem valueOf_classOf_subIndexOf (v : Half) : valueOf (classOf v) (subIndexOf v) = v := by
  have := v.isLt
  apply BitVec.eq_of_toNat_eq
  simp only [classOf, subIndexOf, valueOf, extractLsb'_toNat, BitVec.toNat_ofNat]
  omega

/-- The key a first byte and a request code name (30_encoding.md R82, R88). -/
def keyOf (bm rq : Byte) : Key :=
  ⟨.ofBits (bm.extractLsb' 5 2), .ofBits (bm.extractLsb' 0 5), .ofBits (bm.extractLsb' 7 1), rq⟩

/-- The key of a decoded packet depends on its first two bytes. -/
theorem key_decodeSetup (w0 w1 : Word) :
    (decodeSetup w0 w1).key = keyOf (decodeSetup w0 w1).bmRequestType (w0.extractLsb' 8 8) := by
  have h7 : (w0.extractLsb' 0 8).extractLsb' 7 1 = w0.extractLsb' 7 1 := by
    apply BitVec.eq_of_toNat_eq
    simp only [extractLsb'_toNat]
    omega
  have h5 : (w0.extractLsb' 0 8).extractLsb' 5 2 = w0.extractLsb' 5 2 := by
    apply BitVec.eq_of_toNat_eq
    simp only [extractLsb'_toNat]
    omega
  have h0 : (w0.extractLsb' 0 8).extractLsb' 0 5 = w0.extractLsb' 0 5 := by
    apply BitVec.eq_of_toNat_eq
    simp only [extractLsb'_toNat]
    omega
  simp only [SetupRequest.key, keyOf, bmRequestType_decodeSetup, h7, h5, h0]
  rfl

/-- Which first bytes give each of the request map's (type, target, direction) triples (R86). -/
theorem keyOf_eq_iff (bm rq c : Byte) :
    (keyOf bm rq = ⟨.standard, .device, .deviceToHost, c⟩ ↔ bm = 0x80 ∧ rq = c) ∧
    (keyOf bm rq = ⟨.standard, .interface, .deviceToHost, c⟩ ↔ bm = 0x81 ∧ rq = c) ∧
    (keyOf bm rq = ⟨.standard, .endpoint, .deviceToHost, c⟩ ↔ bm = 0x82 ∧ rq = c) ∧
    (keyOf bm rq = ⟨.standard, .device, .hostToDevice, c⟩ ↔ bm = 0x00 ∧ rq = c) ∧
    (keyOf bm rq = ⟨.vendor, .device, .deviceToHost, c⟩ ↔ bm = 0xC0 ∧ rq = c) ∧
    (keyOf bm rq = ⟨.vendor, .interface, .deviceToHost, c⟩ ↔ bm = 0xC1 ∧ rq = c) ∧
    (keyOf bm rq = ⟨.vendor, .interface, .hostToDevice, c⟩ ↔ bm = 0x41 ∧ rq = c) := by
  have h : ∀ b : Byte,
      (ReqType.ofBits (b.extractLsb' 5 2) = .standard ∧ Target.ofBits (b.extractLsb' 0 5) = .device ∧
        Dir.ofBits (b.extractLsb' 7 1) = .deviceToHost ↔ b = 0x80) ∧
      (ReqType.ofBits (b.extractLsb' 5 2) = .standard ∧ Target.ofBits (b.extractLsb' 0 5) = .interface ∧
        Dir.ofBits (b.extractLsb' 7 1) = .deviceToHost ↔ b = 0x81) ∧
      (ReqType.ofBits (b.extractLsb' 5 2) = .standard ∧ Target.ofBits (b.extractLsb' 0 5) = .endpoint ∧
        Dir.ofBits (b.extractLsb' 7 1) = .deviceToHost ↔ b = 0x82) ∧
      (ReqType.ofBits (b.extractLsb' 5 2) = .standard ∧ Target.ofBits (b.extractLsb' 0 5) = .device ∧
        Dir.ofBits (b.extractLsb' 7 1) = .hostToDevice ↔ b = 0x00) ∧
      (ReqType.ofBits (b.extractLsb' 5 2) = .vendor ∧ Target.ofBits (b.extractLsb' 0 5) = .device ∧
        Dir.ofBits (b.extractLsb' 7 1) = .deviceToHost ↔ b = 0xC0) ∧
      (ReqType.ofBits (b.extractLsb' 5 2) = .vendor ∧ Target.ofBits (b.extractLsb' 0 5) = .interface ∧
        Dir.ofBits (b.extractLsb' 7 1) = .deviceToHost ↔ b = 0xC1) ∧
      (ReqType.ofBits (b.extractLsb' 5 2) = .vendor ∧ Target.ofBits (b.extractLsb' 0 5) = .interface ∧
        Dir.ofBits (b.extractLsb' 7 1) = .hostToDevice ↔ b = 0x41) := by
    decide
  obtain ⟨h1, h2, h3, h4, h5, h6, h7⟩ := h bm
  simp only [keyOf, Key.mk.injEq, ← and_assoc] at *
  simp only [h1, h2, h3, h4, h5, h6, h7, true_and]

end Sys2Proof
end

