-- ==== Sys2Proof/Laws/Params.lean ====
section
/-! SUPPORT. What holds of every table of parameters the model accepts (log entry 20). -/

namespace Sys2Proof

variable (p : Params)

/-- Everything `ParamTable.wf` says, as propositions. -/
theorem Params.wf_spec :
    [p.rqGetStatus, p.rqSetFeature, p.rqGetDescriptor, p.rqGetConfiguration, p.rqSetConfiguration, p.rqSetSel,
      p.rqSetIsocDelay].Nodup ∧
    [p.dtDevice, p.dtConfiguration, p.dtString, p.dtBos].Nodup ∧
    [p.strLangidIndex, p.strManufacturerIndex, p.strProductIndex, p.strSerialIndex, p.msOsStringIndex].Nodup ∧
    p.msVendorCode ≠ p.vendorReqData ∧ 2 ≤ p.ep0bufCap ∧ p.getStatusLen ≤ 2 ∧ p.getConfigurationLen ≤ 1 := by
  simpa only [ParamTable.wf, Bool.and_eq_true, decide_eq_true_eq, and_assoc] using p.wf

/-- The two registers a status reply is staged in exist (20_memory.md R56). -/
theorem Params.two_le_ep0bufCap : 2 ≤ p.ep0bufCap := p.wf_spec.2.2.2.2.1

/-- A status reply is no longer than the two bytes staged for it (20_memory.md R56). -/
theorem Params.getStatusLen_le : p.getStatusLen ≤ 2 := p.wf_spec.2.2.2.2.2.1

/-- A configuration reply is no longer than the byte staged for it (42_dispatcher.md R149). -/
theorem Params.getConfigurationLen_le : p.getConfigurationLen ≤ 1 := p.wf_spec.2.2.2.2.2.2

/-- The request codes of one direction that share a first byte differ (30_encoding.md R91). -/
theorem Params.requestCodes_distinct :
    p.rqGetDescriptor ≠ p.rqGetConfiguration ∧ p.rqGetDescriptor ≠ p.rqGetStatus ∧
    p.rqGetConfiguration ≠ p.rqGetStatus ∧ p.rqSetFeature ≠ p.rqSetSel ∧ p.rqSetFeature ≠ p.rqSetIsocDelay ∧
    p.rqSetFeature ≠ p.rqSetConfiguration ∧ p.rqSetSel ≠ p.rqSetIsocDelay ∧ p.rqSetSel ≠ p.rqSetConfiguration ∧
    p.rqSetIsocDelay ≠ p.rqSetConfiguration ∧ p.msVendorCode ≠ p.vendorReqData := by
  have h := p.wf_spec
  simp only [List.nodup_cons, List.mem_cons, List.not_mem_nil, or_false, not_or] at h
  obtain ⟨⟨⟨-, f1, f2, -⟩, ⟨-, -, a1, a2, a3⟩, ⟨b1, -⟩, -, ⟨c1, c2⟩, d1, -⟩, -, -, e, -⟩ := h
  exact ⟨b1, Ne.symm f1, Ne.symm f2, a2, a3, a1, d1, Ne.symm c1, Ne.symm c2, e⟩

/-- The class codes differ, in the order in which the decoder tries them. -/
theorem Params.classCodes_distinct :
    p.dtDevice ≠ p.dtConfiguration ∧ p.dtDevice ≠ p.dtString ∧ p.dtDevice ≠ p.dtBos ∧
    p.dtConfiguration ≠ p.dtString ∧ p.dtConfiguration ≠ p.dtBos ∧ p.dtString ≠ p.dtBos := by
  have h := p.wf_spec.2.1
  simp only [List.nodup_cons, List.mem_cons, List.not_mem_nil, or_false, not_or] at h
  obtain ⟨⟨a, b, c⟩, ⟨d, e⟩, f, -⟩ := h
  exact ⟨a, b, c, d, e, f⟩

/-- The string sub-indices differ, in the order in which `stringSlot` tries them. -/
theorem Params.stringIndices_distinct :
    p.strLangidIndex ≠ p.strManufacturerIndex ∧ p.strLangidIndex ≠ p.strProductIndex ∧
    p.strLangidIndex ≠ p.strSerialIndex ∧ p.strLangidIndex ≠ p.msOsStringIndex ∧
    p.strManufacturerIndex ≠ p.strProductIndex ∧ p.strManufacturerIndex ≠ p.strSerialIndex ∧
    p.strManufacturerIndex ≠ p.msOsStringIndex ∧ p.strProductIndex ≠ p.strSerialIndex ∧
    p.strProductIndex ≠ p.msOsStringIndex ∧ p.strSerialIndex ≠ p.msOsStringIndex := by
  have h := p.wf_spec.2.2.1
  simp only [List.nodup_cons, List.mem_cons, List.not_mem_nil, or_false, not_or] at h
  obtain ⟨⟨a, b, c, d⟩, ⟨e, f, g⟩, ⟨i, j⟩, k, -⟩ := h
  exact ⟨a, b, c, d, e, f, g, i, j, k⟩

end Sys2Proof
end

