-- ==== Sys2Proof/Laws/State.lean ====
section
/-! SUPPORT. One lemma per field per update of State, each true by rfl, so that no later proof unfolds a record
update. -/

namespace Sys2Proof.Machine

variable (s : State)

/-! ### writeEp0 -/

@[simp] theorem State.writeEp0_ep0buf (v : List Byte) : (s.writeEp0 v).ep0buf = memWrite s.ep0buf 0 v := rfl
@[simp] theorem State.writeEp0_config (v : List Byte) : (s.writeEp0 v).config = s.config := rfl
@[simp] theorem State.writeEp0_rxlen (v : List Byte) : (s.writeEp0 v).rxlen = s.rxlen := rfl
@[simp] theorem State.writeEp0_params (v : List Byte) : (s.writeEp0 v).params = s.params := rfl
@[simp] theorem State.writeEp0_rom (v : List Byte) : (s.writeEp0 v).rom = s.rom := rfl
@[simp] theorem State.writeEp0_pending (v : List Byte) : (s.writeEp0 v).pending = s.pending := rfl
@[simp] theorem State.writeEp0_answers (v : List Byte) : (s.writeEp0 v).answers = s.answers := rfl
@[simp] theorem State.writeEp0_eventIndex (v : List Byte) : (s.writeEp0 v).eventIndex = s.eventIndex := rfl
@[simp] theorem State.writeEp0_trace (v : List Byte) : (s.writeEp0 v).trace = s.trace := rfl
@[simp] theorem State.writeEp0_outcome (v : List Byte) : (s.writeEp0 v).outcome = s.outcome := rfl

/-! ### setConfig -/

@[simp] theorem State.setConfig_ep0buf (v : Byte) : (s.setConfig v).ep0buf = s.ep0buf := rfl
@[simp] theorem State.setConfig_config (v : Byte) : (s.setConfig v).config = v := rfl
@[simp] theorem State.setConfig_rxlen (v : Byte) : (s.setConfig v).rxlen = s.rxlen := rfl
@[simp] theorem State.setConfig_params (v : Byte) : (s.setConfig v).params = s.params := rfl
@[simp] theorem State.setConfig_rom (v : Byte) : (s.setConfig v).rom = s.rom := rfl
@[simp] theorem State.setConfig_pending (v : Byte) : (s.setConfig v).pending = s.pending := rfl
@[simp] theorem State.setConfig_answers (v : Byte) : (s.setConfig v).answers = s.answers := rfl
@[simp] theorem State.setConfig_eventIndex (v : Byte) : (s.setConfig v).eventIndex = s.eventIndex := rfl
@[simp] theorem State.setConfig_trace (v : Byte) : (s.setConfig v).trace = s.trace := rfl
@[simp] theorem State.setConfig_outcome (v : Byte) : (s.setConfig v).outcome = s.outcome := rfl

/-! ### setRxlen -/

@[simp] theorem State.setRxlen_ep0buf (v : Nat) : (s.setRxlen v).ep0buf = s.ep0buf := rfl
@[simp] theorem State.setRxlen_config (v : Nat) : (s.setRxlen v).config = s.config := rfl
@[simp] theorem State.setRxlen_rxlen (v : Nat) : (s.setRxlen v).rxlen = v := rfl
@[simp] theorem State.setRxlen_params (v : Nat) : (s.setRxlen v).params = s.params := rfl
@[simp] theorem State.setRxlen_rom (v : Nat) : (s.setRxlen v).rom = s.rom := rfl
@[simp] theorem State.setRxlen_pending (v : Nat) : (s.setRxlen v).pending = s.pending := rfl
@[simp] theorem State.setRxlen_answers (v : Nat) : (s.setRxlen v).answers = s.answers := rfl
@[simp] theorem State.setRxlen_eventIndex (v : Nat) : (s.setRxlen v).eventIndex = s.eventIndex := rfl
@[simp] theorem State.setRxlen_trace (v : Nat) : (s.setRxlen v).trace = s.trace := rfl
@[simp] theorem State.setRxlen_outcome (v : Nat) : (s.setRxlen v).outcome = s.outcome := rfl

/-! ### record -/

@[simp] theorem State.record_ep0buf (c : EnvCall) : (s.record c).ep0buf = s.ep0buf := rfl
@[simp] theorem State.record_config (c : EnvCall) : (s.record c).config = s.config := rfl
@[simp] theorem State.record_rxlen (c : EnvCall) : (s.record c).rxlen = s.rxlen := rfl
@[simp] theorem State.record_params (c : EnvCall) : (s.record c).params = s.params := rfl
@[simp] theorem State.record_rom (c : EnvCall) : (s.record c).rom = s.rom := rfl
@[simp] theorem State.record_pending (c : EnvCall) : (s.record c).pending = s.pending := rfl
@[simp] theorem State.record_answers (c : EnvCall) : (s.record c).answers = s.answers := rfl
@[simp] theorem State.record_eventIndex (c : EnvCall) : (s.record c).eventIndex = s.eventIndex := rfl
@[simp] theorem State.record_trace (c : EnvCall) : (s.record c).trace = s.trace ++ [c] := rfl
@[simp] theorem State.record_outcome (c : EnvCall) : (s.record c).outcome = s.outcome := rfl

/-! ### finish -/

@[simp] theorem State.finish_ep0buf (o : SetupOutcome) : (s.finish o).ep0buf = s.ep0buf := rfl
@[simp] theorem State.finish_config (o : SetupOutcome) : (s.finish o).config = s.config := rfl
@[simp] theorem State.finish_rxlen (o : SetupOutcome) : (s.finish o).rxlen = s.rxlen := rfl
@[simp] theorem State.finish_params (o : SetupOutcome) : (s.finish o).params = s.params := rfl
@[simp] theorem State.finish_rom (o : SetupOutcome) : (s.finish o).rom = s.rom := rfl
@[simp] theorem State.finish_pending (o : SetupOutcome) : (s.finish o).pending = s.pending := rfl
@[simp] theorem State.finish_answers (o : SetupOutcome) : (s.finish o).answers = s.answers := rfl
@[simp] theorem State.finish_eventIndex (o : SetupOutcome) : (s.finish o).eventIndex = s.eventIndex := rfl
@[simp] theorem State.finish_trace (o : SetupOutcome) : (s.finish o).trace = s.trace := rfl
@[simp] theorem State.finish_outcome (o : SetupOutcome) : (s.finish o).outcome = some o := rfl

/-! ### noOutcome -/

@[simp] theorem State.noOutcome_ep0buf : (s.noOutcome).ep0buf = s.ep0buf := rfl
@[simp] theorem State.noOutcome_config : (s.noOutcome).config = s.config := rfl
@[simp] theorem State.noOutcome_rxlen : (s.noOutcome).rxlen = s.rxlen := rfl
@[simp] theorem State.noOutcome_params : (s.noOutcome).params = s.params := rfl
@[simp] theorem State.noOutcome_rom : (s.noOutcome).rom = s.rom := rfl
@[simp] theorem State.noOutcome_pending : (s.noOutcome).pending = s.pending := rfl
@[simp] theorem State.noOutcome_answers : (s.noOutcome).answers = s.answers := rfl
@[simp] theorem State.noOutcome_eventIndex : (s.noOutcome).eventIndex = s.eventIndex := rfl
@[simp] theorem State.noOutcome_trace : (s.noOutcome).trace = s.trace := rfl
@[simp] theorem State.noOutcome_outcome : (s.noOutcome).outcome = none := rfl

/-! ### takeInput -/

@[simp] theorem State.takeInput_ep0buf (x : Input) (rest : List Input) : (s.takeInput x rest).ep0buf = s.ep0buf := rfl
@[simp] theorem State.takeInput_config (x : Input) (rest : List Input) : (s.takeInput x rest).config = s.config := rfl
@[simp] theorem State.takeInput_rxlen (x : Input) (rest : List Input) : (s.takeInput x rest).rxlen = s.rxlen := rfl
@[simp] theorem State.takeInput_params (x : Input) (rest : List Input) : (s.takeInput x rest).params = s.params := rfl
@[simp] theorem State.takeInput_rom (x : Input) (rest : List Input) : (s.takeInput x rest).rom = s.rom := rfl
@[simp] theorem State.takeInput_pending (x : Input) (rest : List Input) : (s.takeInput x rest).pending = rest := rfl
@[simp] theorem State.takeInput_answers (x : Input) (rest : List Input) : (s.takeInput x rest).answers = x.answers := rfl
@[simp] theorem State.takeInput_eventIndex (x : Input) (rest : List Input) : (s.takeInput x rest).eventIndex = s.eventIndex + 1 := rfl
@[simp] theorem State.takeInput_trace (x : Input) (rest : List Input) : (s.takeInput x rest).trace = s.trace := rfl
@[simp] theorem State.takeInput_outcome (x : Input) (rest : List Input) : (s.takeInput x rest).outcome = s.outcome := rfl

/-! ### deliverFirst -/

@[simp] theorem State.deliverFirst_ep0buf (e : Event) : (s.deliverFirst e).ep0buf = s.ep0buf := rfl
@[simp] theorem State.deliverFirst_config (e : Event) : (s.deliverFirst e).config = s.config := rfl
@[simp] theorem State.deliverFirst_rxlen (e : Event) : (s.deliverFirst e).rxlen = s.rxlen := rfl
@[simp] theorem State.deliverFirst_params (e : Event) : (s.deliverFirst e).params = s.params := rfl
@[simp] theorem State.deliverFirst_rom (e : Event) : (s.deliverFirst e).rom = s.rom := rfl
@[simp] theorem State.deliverFirst_pending (e : Event) : (s.deliverFirst e).pending = ⟨e, s.answers⟩ :: s.pending := rfl
@[simp] theorem State.deliverFirst_answers (e : Event) : (s.deliverFirst e).answers = s.answers := rfl
@[simp] theorem State.deliverFirst_eventIndex (e : Event) : (s.deliverFirst e).eventIndex = s.eventIndex := rfl
@[simp] theorem State.deliverFirst_trace (e : Event) : (s.deliverFirst e).trace = s.trace := rfl
@[simp] theorem State.deliverFirst_outcome (e : Event) : (s.deliverFirst e).outcome = s.outcome := rfl

/-! ### reset -/

@[simp] theorem State.reset_params : State.reset.params = Config.params := rfl
@[simp] theorem State.reset_config : State.reset.config = 0 := rfl
@[simp] theorem State.reset_pending : State.reset.pending = [] := rfl
@[simp] theorem State.reset_eventIndex : State.reset.eventIndex = 0 := rfl
@[simp] theorem State.reset_trace : State.reset.trace = [] := rfl
@[simp] theorem State.reset_outcome : State.reset.outcome = none := rfl

end Sys2Proof.Machine
end

