-- ==== Sys2Proof/Laws/Memory.lean ====
section
/-! SUPPORT. What the memory operations do, byte by byte: a read after a write gives what was written, every other byte
is kept, the lengths are those asked for, and the registers keep their form (`State.Sized`). -/

namespace Sys2Proof.Machine

/-- Writing never changes the size of a space. -/
@[simp] theorem memWrite_length (space : List Byte) (addr : Nat) (v : List Byte) :
    (memWrite space addr v).length = space.length := by
  induction space, addr, v using memWrite.induct <;> simp_all [memWrite]

/-- Writing nothing changes nothing. -/
@[simp] theorem memWrite_nil (space : List Byte) : memWrite space 0 [] = space := by
  cases space <;> rfl

/-- A byte that was written reads as written. -/
theorem memWrite_getElem?_of_lt (space v : List Byte) (i : Nat) (h : i < space.length) (hv : i < v.length) :
    (memWrite space 0 v)[i]? = v[i]? := by
  induction space generalizing v i with
  | nil => simp at h
  | cons b bs ih =>
    cases v with
    | nil => simp at hv
    | cons x v =>
      cases i with
      | zero => simp [memWrite]
      | succ i => simpa [memWrite] using ih v i (by simpa using h) (by simpa using hv)

/-- A byte beyond the bytes written is kept. -/
theorem memWrite_getElem?_of_le (space v : List Byte) (i : Nat) (hv : v.length ≤ i) :
    (memWrite space 0 v)[i]? = space[i]? := by
  induction space generalizing v i with
  | nil => rfl
  | cons b bs ih =>
    cases v with
    | nil => simp
    | cons x v =>
      cases i with
      | zero => simp at hv
      | succ i => simpa [memWrite] using ih v i (by simpa using hv)

/-- A space after a write that fits: the bytes written, then the older ones. -/
theorem memWrite_eq_append (space v : List Byte) (hv : v.length ≤ space.length) :
    memWrite space 0 v = v ++ space.drop v.length := by
  induction space generalizing v with
  | nil => simp_all [memWrite]
  | cons b bs ih =>
    cases v with
    | nil => simp
    | cons x v => simpa [memWrite] using ih v (by simpa using hv)

/-- One staged byte is a write of the first register. -/
theorem memWrite_one (space : List Byte) (a : Byte) : memWrite space 0 [a] = space.set 0 a := by
  cases space <;> simp [memWrite]

/-- Two staged bytes are a write of the first two registers. -/
theorem memWrite_two (space : List Byte) (a b : Byte) : memWrite space 0 [a, b] = (space.set 0 a).set 1 b := by
  rcases space with _ | ⟨x, _ | ⟨y, space⟩⟩ <;> simp [memWrite]

/-- What is read back of staged bytes that fit, up to their number. -/
theorem memWrite_take (space v : List Byte) (n : Nat) (hv : v.length ≤ space.length) (hn : n ≤ v.length) :
    (memWrite space 0 v).take n = v.take n := by
  rw [memWrite_eq_append _ _ hv, List.take_append_of_le_length hn]

/-- A read from offset 0 is a list's first bytes. -/
@[simp] theorem memRead_zero (space : List Byte) (n : Nat) : memRead space 0 n = space.take n := by
  simp [memRead]

/-- A read never returns more than was asked for. -/
theorem memRead_length_le (space : List Byte) (addr n : Nat) : (memRead space addr n).length ≤ n := by
  simp [memRead]

/-- A read of the buffer as a list's first bytes. -/
@[simp] theorem State.readEp0_eq (s : State) (n : Nat) : s.readEp0 n = s.ep0buf.take n := by
  simp [State.readEp0]

/-! ### The form of the registers -/

/-- At reset the registers have their form (10_state.md R21, R26). -/
theorem State.reset_sized : State.reset.Sized :=
  ⟨by simp [State.reset], Nat.min_le_right _ _⟩

/-- A buffer write keeps the form. -/
theorem State.writeEp0_sized {s : State} (h : s.Sized) (v : List Byte) : (s.writeEp0 v).Sized :=
  ⟨by simpa using h.1, h.2⟩

/-- A write of `RXLEN` keeps the form when the value is in range. -/
theorem State.setRxlen_sized {s : State} (h : s.Sized) (v : Nat) (hv : v ≤ s.params.ep0bufCap) :
    (s.setRxlen v).Sized :=
  ⟨h.1, hv⟩

/-- The buffer has room for a staged reply: the first two registers exist (20_memory.md R56). -/
theorem State.Sized.two_le {s : State} (h : s.Sized) (hp : 2 ≤ s.params.ep0bufCap) : 2 ≤ s.ep0buf.length :=
  h.1 ▸ hp

end Sys2Proof.Machine
end

