-- ==== Sys2Proof/Laws/Ops.lean ====
section
/-! SUPPORT. For each shared operation, once, everything it can do: its value under each answer of the environment, and
the fields it leaves alone. Later proofs cite these and unfold no operation. -/

namespace Sys2Proof.Machine

variable (s : State)

/-! ### Environment calls -/

@[simp] theorem queryLinkSpeed_eq :
    queryLinkSpeed s = (s.answers.speed, s.record (.queryLinkSpeed s.answers.speed)) := rfl

@[simp] theorem queryEndpointStallState_eq (e : Half) :
    queryEndpointStallState e s = (s.answers.stalled, s.record (.queryEndpointStallState e s.answers.stalled)) := rfl

@[simp] theorem receiveData_eq (n : Nat) :
    receiveData n s = (s.answers.receive, s.answers.received.take n,
      s.record (.receiveData n s.answers.receive (s.answers.received.take n))) := rfl

/-! ### Reject -/

/-- The exception as one update (60_exceptions.md R214). -/
theorem raiseReject_eq (cause : RejectCause) : raiseReject cause s =
    { s with trace := s.trace ++ [.reject], outcome := some (.reject cause) } := rfl

@[simp] theorem raiseReject_ep0buf (c : RejectCause) : (raiseReject c s).ep0buf = s.ep0buf := rfl
@[simp] theorem raiseReject_config (c : RejectCause) : (raiseReject c s).config = s.config := rfl
@[simp] theorem raiseReject_rxlen (c : RejectCause) : (raiseReject c s).rxlen = s.rxlen := rfl
@[simp] theorem raiseReject_params (c : RejectCause) : (raiseReject c s).params = s.params := rfl
@[simp] theorem raiseReject_rom (c : RejectCause) : (raiseReject c s).rom = s.rom := rfl
@[simp] theorem raiseReject_pending (c : RejectCause) : (raiseReject c s).pending = s.pending := rfl
@[simp] theorem raiseReject_answers (c : RejectCause) : (raiseReject c s).answers = s.answers := rfl
@[simp] theorem raiseReject_eventIndex (c : RejectCause) : (raiseReject c s).eventIndex = s.eventIndex := rfl
@[simp] theorem raiseReject_trace (c : RejectCause) : (raiseReject c s).trace = s.trace ++ [.reject] := rfl
@[simp] theorem raiseReject_outcome (c : RejectCause) : (raiseReject c s).outcome = some (.reject c) := rfl

/-! ### SEND -/

/-- `SEND` when the transport reports the send done (42_dispatcher.md R143). -/
theorem send_ok (bytes : List Byte) (h : s.answers.send = .ok) : send bytes s =
    { s with trace := s.trace ++ [.sendResponse bytes .ok], outcome := some (.respond bytes) } := by
  simp [send, sendResponse, h, State.finish, State.record]

/-- `SEND` when the transport reports failure (R143). -/
theorem send_fail (bytes : List Byte) (h : s.answers.send = .fail) : send bytes s =
    { s with trace := s.trace ++ [.sendResponse bytes .fail, .reject], outcome := some (.reject .transport) } := by
  simp [send, sendResponse, h, State.record, raiseReject_eq]

/-- Everything `SEND` can do. -/
theorem send_cases (bytes : List Byte) :
    (s.answers.send = .ok ∧ send bytes s =
      { s with trace := s.trace ++ [.sendResponse bytes .ok], outcome := some (.respond bytes) }) ∨
    (s.answers.send = .fail ∧ send bytes s =
      { s with trace := s.trace ++ [.sendResponse bytes .fail, .reject],
               outcome := some (.reject .transport) }) := by
  cases h : s.answers.send
  · exact .inl ⟨rfl, send_ok s bytes h⟩
  · exact .inr ⟨rfl, send_fail s bytes h⟩

/-! ### ACK -/

/-- An acknowledge that succeeds commits (42_dispatcher.md R144; 43_configuration.md R170). -/
theorem ackThen_ok (commit : State → State) (h : s.answers.ack = .ok) :
    ackThen commit s = (commit (s.record (.acknowledge .ok))).finish .acknowledge := by
  simp [ackThen, acknowledge, h]

/-- An acknowledge that fails rejects and commits nothing (R144, R170). -/
theorem ackThen_fail (commit : State → State) (h : s.answers.ack = .fail) :
    ackThen commit s = raiseReject .transport (s.record (.acknowledge .fail)) := by
  simp [ackThen, acknowledge, h]

/-! ### Requests that send a descriptor -/

/-- Everything `sendLookup` can do. -/
theorem sendLookup_cases (found : Option Slot) (wLength : Half) :
    (found = none ∧ sendLookup found wLength s =
      { s with trace := s.trace ++ [.reject], outcome := some (.reject .lookupMiss) }) ∨
    (∃ slot, found = some slot ∧ sendLookup found wLength s = send (trunc s.rom slot wLength) s) := by
  cases found with
  | none => exact .inl ⟨rfl, raiseReject_eq s .lookupMiss⟩
  | some slot => exact .inr ⟨slot, rfl, rfl⟩

/-- GET_DESCRIPTOR: the query is recorded, then the lookup's answer is served (42_dispatcher.md R146). -/
theorem getDescriptor_eq (cls idx : Byte) (wLength : Half) : getDescriptor cls idx wLength s =
    sendLookup (lookup s.params s.rom cls idx s.answers.speed) wLength
      (s.record (.queryLinkSpeed s.answers.speed)) := rfl

/-! ### Status replies -/

/-- A staged reply: the buffer is written, then its first bytes are sent (42_dispatcher.md R149 to R152). -/
theorem stageAndSend_eq (reply : List Byte) (n : Nat) (wLength : Half) : stageAndSend reply n wLength s =
    send ((memWrite s.ep0buf 0 reply).take (min n wLength.toNat)) (s.writeEp0 reply) := by
  simp [stageAndSend, clampLength]

/-! ### SET_CONFIGURATION -/

/-- SET_CONFIGURATION when the acknowledge succeeds (43_configuration.md R170). -/
theorem setConfiguration_ok (h : s.answers.ack = .ok) : setConfiguration s =
    { s with config := 1,
             trace := s.trace ++ [.disableLowPower, .notifyApplicationStart, .acknowledge .ok],
             outcome := some .acknowledge } := by
  have h' : (notifyApplicationStart (disableLowPower s)).answers.ack = .ok := h
  rw [setConfiguration, ackThen_ok _ _ h']
  simp [notifyApplicationStart, disableLowPower, State.record, State.setConfig, State.finish]

/-- SET_CONFIGURATION when the acknowledge fails (R170, R173). -/
theorem setConfiguration_fail (h : s.answers.ack = .fail) : setConfiguration s =
    { s with trace := s.trace ++ [.disableLowPower, .notifyApplicationStart, .acknowledge .fail, .reject],
             outcome := some (.reject .transport) } := by
  have h' : (notifyApplicationStart (disableLowPower s)).answers.ack = .fail := h
  rw [setConfiguration, ackThen_fail _ _ h']
  simp [notifyApplicationStart, disableLowPower, State.record, raiseReject_eq]

/-! ### VENDOR_WRITE -/

/-- VENDOR_WRITE when the receive succeeds (44_vendor_channel.md R184). -/
theorem vendorWrite_ok (wLength : Half) (data : List Byte) (h : s.answers.receive = .ok)
    (hd : data = s.answers.received.take (min s.params.ep0bufCap wLength.toNat)) : vendorWrite wLength s =
    { s with ep0buf := memWrite s.ep0buf 0 data, rxlen := data.length,
             trace := s.trace ++ [.receiveData (min s.params.ep0bufCap wLength.toNat) .ok data],
             outcome := some .acknowledge } := by
  subst hd
  simp [vendorWrite, h, clampLength, State.writeEp0, State.setRxlen, State.record, State.finish]

/-- VENDOR_WRITE when the receive fails (R185). -/
theorem vendorWrite_fail (wLength : Half) (data : List Byte) (h : s.answers.receive = .fail)
    (hd : data = s.answers.received.take (min s.params.ep0bufCap wLength.toNat)) : vendorWrite wLength s =
    raiseReject .transport (spoilWindow (min s.params.ep0bufCap wLength.toNat) data
      (s.record (.receiveData (min s.params.ep0bufCap wLength.toNat) .fail data))) := by
  subst hd
  simp [vendorWrite, h, clampLength]

/-- A byte outside the window survives a failed receive (R185). -/
theorem spoilWindow_getElem? (n : Nat) (arrived : List Byte) (i : Nat) (hn : n ≤ i) :
    (spoilWindow n arrived s).ep0buf[i]? = s.ep0buf[i]? := by
  simp only [spoilWindow, State.setRxlen_ep0buf, State.writeEp0_ep0buf]
  exact memWrite_getElem?_of_le _ _ i (by simpa using hn)

/-- A failed receive keeps the number of registers. -/
@[simp] theorem spoilWindow_length (n : Nat) (arrived : List Byte) :
    (spoilWindow n arrived s).ep0buf.length = s.ep0buf.length := by
  simp [spoilWindow]

/-- A failed receive leaves `RXLEN` in range (10_state.md R26). -/
theorem spoilWindow_rxlen_le (n : Nat) (arrived : List Byte) :
    (spoilWindow n arrived s).rxlen ≤ s.params.ep0bufCap :=
  Nat.min_le_right _ _

/-- A failed receive keeps the form of the registers. -/
theorem spoilWindow_sized {s : State} (h : s.Sized) (n : Nat) (arrived : List Byte) :
    (spoilWindow n arrived s).Sized :=
  ⟨(State.writeEp0_sized h _).1, spoilWindow_rxlen_le s n arrived⟩

/-- A failed receive changes the buffer and the received length only. -/
theorem spoilWindow_eq (n : Nat) (arrived : List Byte) : spoilWindow n arrived s =
    { s with ep0buf := (spoilWindow n arrived s).ep0buf, rxlen := (spoilWindow n arrived s).rxlen } := rfl

end Sys2Proof.Machine
end

