-- ==== Sys2Proof/Laws/Store.lean ====
section
/-! SUPPORT. What the Descriptor Store's functions can answer (41_descriptor_store.md). -/

namespace Sys2Proof.Machine

/-- A filled slot is found, an empty one is a miss (R121). -/
theorem filled_eq_some_iff (rom : Rom) (s t : Slot) : filled rom s = some t ↔ s = t ∧ (rom.slot s).isSome = true := by
  unfold filled
  split <;> simp_all

/-- A lookup hits a slot when the key names it and it is filled (R124). -/
theorem lookup_eq_some_iff (p : Params) (rom : Rom) (cls idx : Byte) (spd : Speed) (t : Slot) :
    lookup p rom cls idx spd = some t ↔ keySlot p cls idx spd = some t ∧ (rom.slot t).isSome = true := by
  unfold lookup
  cases h : keySlot p cls idx spd with
  | none => simp
  | some k =>
    simp only [Option.bind_some, filled_eq_some_iff, Option.some.injEq]
    constructor
    · rintro ⟨rfl, h1⟩
      exact ⟨rfl, h1⟩
    · rintro ⟨rfl, h1⟩
      exact ⟨rfl, h1⟩

/-- What is sent of a filled slot (R128). -/
theorem trunc_eq (rom : Rom) (s : Slot) (b : Blob) (wLength : Half) (h : rom.slot s = some b) :
    trunc rom s wLength = b.take (min (declLen s b) wLength.toNat) := by
  simp [trunc, h, clampLength]

/-- A descriptor response is never longer than asked for (20_memory.md R60). -/
theorem trunc_length_le (rom : Rom) (s : Slot) (wLength : Half) : (trunc rom s wLength).length ≤ wLength.toNat := by
  unfold trunc
  split
  · refine Nat.le_trans (memRead_length_le _ _ _) ?_
    exact Nat.min_le_right _ _
  · simp

/-- A slot of an accepted table honours the layout contract (R126). -/
theorem Rom.slot_wf (rom : Rom) (s : Slot) (b : Blob) (h : rom.slot s = some b) : blobWf s b = true := by
  have hall := rom.wf
  simp only [RomData.wf, List.all_eq_true] at hall
  have hs := hall s (by cases s <;> simp [Slot.all])
  simp only [Rom.slot] at h
  simpa [h] using hs

end Sys2Proof.Machine
end

