-- ==== Sys2Proof/Laws/Step.lean ====
section
/-! SUPPORT. Once, everything a step can do: idle, serve a setup packet, or serve a bus event. -/

namespace Sys2Proof.Machine

/-- Every step that answers a next state is one of these four. -/
theorem step_cases {s t : State} (h : step s = .next t) :
    (s.pending = [] ∧ t = s) ∨
    (∃ input rest w0 w1, s.pending = input :: rest ∧ input.event = .setup w0 w1 ∧
      exec (decodeWords s.params w0 w1) (s.takeInput input rest) = .next t) ∨
    (∃ input rest aux, s.pending = input :: rest ∧ input.event = .bus .reset aux ∧
      t = busReset (s.takeInput input rest)) ∨
    (∃ input rest aux, s.pending = input :: rest ∧ input.event = .bus .other aux ∧
      t = busOther (s.takeInput input rest)) := by
  unfold step at h
  split at h
  · next hp => exact .inl ⟨hp, by simpa using h.symm⟩
  · next input rest hp =>
    split at h
    · next w0 w1 he => exact .inr (.inl ⟨input, rest, w0, w1, hp, he, h⟩)
    · next kind aux he =>
      cases kind with
      | reset => exact .inr (.inr (.inl ⟨input, rest, aux, hp, he, by simpa [handleBusEvent] using h.symm⟩))
      | other => exact .inr (.inr (.inr ⟨input, rest, aux, hp, he, by simpa [handleBusEvent] using h.symm⟩))

/-- A bus reset as one update (45_bus_events.md R201). -/
theorem busReset_eq (s : State) :
    busReset s = { s with trace := s.trace ++ [.notifyApplicationStop], outcome := none } := rfl

/-- Any other bus event as one update (R202). -/
theorem busOther_eq (s : State) : busOther s = { s with outcome := none } := rfl

end Sys2Proof.Machine
end

