-- ==== Sys2Proof/Laws/Exec.lean ====
section
/-! SUPPORT. Once, everything a request can do: what it leaves in the buffer, in `CONFIG` and in `RXLEN`, the calls it
makes and how it ends, as functions of the state before; and that every other field stays. -/

namespace Sys2Proof.Machine

/-- What a request leaves behind. -/
structure Effect where
  ep0buf : List Byte
  config : Byte
  rxlen : Nat
  calls : List EnvCall
  result : SetupOutcome

/-- The state after an effect. -/
def Effect.apply (e : Effect) (s : State) : State :=
  { s with ep0buf := e.ep0buf, config := e.config, rxlen := e.rxlen, trace := s.trace ++ e.calls,
           outcome := some e.result }

/-- The effect of a reject that leaves the registers alone, after the calls `before`. -/
def rejectEffect (before : List EnvCall) (cause : RejectCause) (s : State) : Effect :=
  ⟨s.ep0buf, s.config, s.rxlen, before ++ [.reject], .reject cause⟩

/-- The effect of a send, after the calls `before`, with the buffer already staged (42_dispatcher.md R143). -/
def sendEffect (before : List EnvCall)
    (buf : List Byte) (bytes : List Byte) (s : State) : Effect :=
  match s.answers.send with
  | .ok => ⟨buf, s.config, s.rxlen, before ++ [.sendResponse bytes .ok], .respond bytes⟩
  | .fail => ⟨buf, s.config, s.rxlen, before ++ [.sendResponse bytes .fail, .reject], .reject .transport⟩

/-- The effect of sending what a lookup found (42_dispatcher.md R146; 44_vendor_channel.md R181, R182). -/
def lookupEffect (before : List EnvCall) (found : Option Slot) (wLength : Half) (s : State) : Effect :=
  match found with
  | none => rejectEffect before .lookupMiss s
  | some slot => sendEffect before s.ep0buf (trunc s.rom slot wLength) s

/-- The effect of a GET_DESCRIPTOR row (42_dispatcher.md R146). -/
def descriptorEffect (cls idx : Byte) (wLength : Half) (s : State) : Effect :=
  lookupEffect [.queryLinkSpeed s.answers.speed] (lookup s.params s.rom cls idx s.answers.speed) wLength s

/-- The effect of a GET_STATUS row, after the calls `before`: the reply is staged, then sent from the buffer
(42_dispatcher.md R150 to R152). -/
def statusEffect (before : List EnvCall) (stalled : Bool) (wLength : Half) (s : State) : Effect :=
  sendEffect before ((s.ep0buf.set 0 (zextBool stalled)).set 1 0)
    (((s.ep0buf.set 0 (zextBool stalled)).set 1 0).take (min s.params.getStatusLen wLength.toNat)) s

/-- The effect of SET_CONFIGURATION (43_configuration.md R170). -/
def setConfigurationEffect (s : State) : Effect :=
  match s.answers.ack with
  | .ok => ⟨s.ep0buf, 1, s.rxlen, [.disableLowPower, .notifyApplicationStart, .acknowledge .ok], .acknowledge⟩
  | .fail =>
    rejectEffect [.disableLowPower, .notifyApplicationStart, .acknowledge .fail] .transport s

/-- The effect of VENDOR_WRITE (44_vendor_channel.md R184, R185). -/
def vendorWriteEffect (wLength : Half) (s : State) : Effect :=
  let n := min s.params.ep0bufCap wLength.toNat
  let data := s.answers.received.take n
  match s.answers.receive with
  | .ok => ⟨memWrite s.ep0buf 0 data, s.config, data.length, [.receiveData n .ok data], .acknowledge⟩
  | .fail =>
    ⟨(spoilWindow n data s).ep0buf, s.config, (spoilWindow n data s).rxlen, [.receiveData n .fail data, .reject],
      .reject .transport⟩

/-- The effect of every request. -/
def effect : Instr → State → Effect
  | .getDescriptorDevice idx _ wl, s => descriptorEffect s.params.dtDevice idx wl s
  | .getDescriptorConfiguration idx _ wl, s => descriptorEffect s.params.dtConfiguration idx wl s
  | .getDescriptorString idx _ wl, s => descriptorEffect s.params.dtString idx wl s
  | .getDescriptorBos idx _ wl, s => descriptorEffect s.params.dtBos idx wl s
  | .getDescriptorOther cls idx _ wl, s => descriptorEffect cls idx wl s
  | .getConfiguration _ _ wl, s =>
    sendEffect [] (s.ep0buf.set 0 s.config)
      ((s.ep0buf.set 0 s.config).take (min s.params.getConfigurationLen wl.toNat)) s
  | .getStatusDev _ _ wl, s => statusEffect [] false wl s
  | .getStatusIf _ _ wl, s => statusEffect [] false wl s
  | .getStatusEp _ ix wl, s => statusEffect [.queryEndpointStallState ix s.answers.stalled] s.answers.stalled wl s
  | .setFeature _ _ _, s => rejectEffect [] .unsupported s
  | .setSel _ _ _, s => rejectEffect [] .unsupported s
  | .setIsocDelay _ _ _, s => rejectEffect [] .unsupported s
  | .setConfiguration _ _, s => setConfigurationEffect s
  | .msCompatId _ wl, s => lookupEffect [] (lookupMs s.rom .compatId) wl s
  | .msExtProps _ wl, s => lookupEffect [] (lookupMs s.rom .extProps) wl s
  | .vendorRead _ _ wl, s => sendEffect [] s.ep0buf (s.ep0buf.take (min s.params.ep0bufCap wl.toNat)) s
  | .vendorWrite _ _ wl, s => vendorWriteEffect wl s
  | .rejectDefault _ _ _ _ _, s => rejectEffect [] .unmatched s

/-! ### What an effect leaves -/

@[simp] theorem Effect.apply_ep0buf (e : Effect) (s : State) : (e.apply s).ep0buf = e.ep0buf := rfl
@[simp] theorem Effect.apply_config (e : Effect) (s : State) : (e.apply s).config = e.config := rfl
@[simp] theorem Effect.apply_rxlen (e : Effect) (s : State) : (e.apply s).rxlen = e.rxlen := rfl
@[simp] theorem Effect.apply_params (e : Effect) (s : State) : (e.apply s).params = s.params := rfl
@[simp] theorem Effect.apply_rom (e : Effect) (s : State) : (e.apply s).rom = s.rom := rfl
@[simp] theorem Effect.apply_pending (e : Effect) (s : State) : (e.apply s).pending = s.pending := rfl
@[simp] theorem Effect.apply_answers (e : Effect) (s : State) : (e.apply s).answers = s.answers := rfl
@[simp] theorem Effect.apply_eventIndex (e : Effect) (s : State) : (e.apply s).eventIndex = s.eventIndex := rfl
@[simp] theorem Effect.apply_trace (e : Effect) (s : State) : (e.apply s).trace = s.trace ++ e.calls := rfl
@[simp] theorem Effect.apply_outcome (e : Effect) (s : State) : (e.apply s).outcome = some e.result := rfl

@[simp] theorem sendEffect_ep0buf (before : List EnvCall)
    (buf : List Byte) (bytes : List Byte) (s : State) :
    (sendEffect before buf bytes s).ep0buf = buf := by
  unfold sendEffect
  split <;> rfl

@[simp] theorem sendEffect_config (before : List EnvCall)
    (buf : List Byte) (bytes : List Byte) (s : State) :
    (sendEffect before buf bytes s).config = s.config := by
  unfold sendEffect
  split <;> rfl

@[simp] theorem sendEffect_rxlen (before : List EnvCall)
    (buf : List Byte) (bytes : List Byte) (s : State) :
    (sendEffect before buf bytes s).rxlen = s.rxlen := by
  unfold sendEffect
  split <;> rfl

/-- A request that writes nothing leaves the three registers as they were (10_state.md R21). -/
theorem effect_of_writesNothing (i : Instr) (s : State) (h : i.writesNothing = true) :
    (effect i s).ep0buf = s.ep0buf ∧ (effect i s).config = s.config ∧ (effect i s).rxlen = s.rxlen := by
  have hl : ∀ before found wl, (lookupEffect before found wl s).ep0buf = s.ep0buf ∧
      (lookupEffect before found wl s).config = s.config ∧ (lookupEffect before found wl s).rxlen = s.rxlen := by
    intro before found wl
    cases found <;> simp [lookupEffect, rejectEffect]
  cases i <;> simp only [Instr.writesNothing, Bool.false_eq_true] at h <;>
    simp [effect, descriptorEffect, hl, rejectEffect]

/-- What is sent of a staged status reply, in a state whose registers have their form: the reply, cut (R150 to R152). -/
theorem staged_status_take {s : State} (h : s.Sized) (stalled : Bool) (wLength : Half) :
    ((s.ep0buf.set 0 (zextBool stalled)).set 1 0).take (min s.params.getStatusLen wLength.toNat) =
      (statusReply stalled).take (min s.params.getStatusLen wLength.toNat) := by
  have hle : min s.params.getStatusLen wLength.toNat ≤ 2 := Nat.le_trans (Nat.min_le_left _ _) s.params.getStatusLen_le
  rw [← memWrite_two]
  exact memWrite_take _ _ _ (h.two_le s.params.two_le_ep0bufCap) hle

/-- What is sent of a staged configuration reply, in a state whose registers have their form (R149). -/
theorem staged_configuration_take {s : State} (h : s.Sized) (wLength : Half) :
    (s.ep0buf.set 0 s.config).take (min s.params.getConfigurationLen wLength.toNat) =
      [s.config].take (min s.params.getConfigurationLen wLength.toNat) := by
  have hle : min s.params.getConfigurationLen wLength.toNat ≤ 1 :=
    Nat.le_trans (Nat.min_le_left _ _) s.params.getConfigurationLen_le
  have h2 := h.two_le s.params.two_le_ep0bufCap
  rw [← memWrite_one]
  exact memWrite_take _ _ _ (by simp only [List.length_singleton]; omega) hle

/-! ### The effect is what runs -/

/-- A send is its effect; `s0` is the state before the calls `before` and the staging of `buf`. -/
theorem send_eq_effect (before : List EnvCall) (buf : List Byte) (bytes : List Byte) (s0 s : State)
    (h : s = { s0 with ep0buf := buf, trace := s0.trace ++ before }) :
    send bytes s = (sendEffect before buf bytes s0).apply s0 := by
  subst h
  rcases h : s0.answers.send with _ | _
  · rw [send_ok _ _ (by simpa using h)]
    simp [sendEffect, h, Effect.apply]
  · rw [send_fail _ _ (by simpa using h)]
    simp [sendEffect, h, Effect.apply]

/-- Serving a lookup's answer is its effect. -/
theorem sendLookup_eq_effect (before : List EnvCall) (found : Option Slot) (wLength : Half) (s0 s : State)
    (h : s = { s0 with trace := s0.trace ++ before }) :
    sendLookup found wLength s = (lookupEffect before found wLength s0).apply s0 := by
  cases found with
  | none => subst h; simp [sendLookup, raiseReject_eq, lookupEffect, rejectEffect, Effect.apply]
  | some slot =>
    have hr : s.rom = s0.rom := by rw [h]
    simp only [sendLookup, lookupEffect, hr]
    exact send_eq_effect before s0.ep0buf _ s0 s (by rw [h])

/-- Every request runs, and what it does is its effect. -/
theorem exec_eq_effect (i : Instr) (s : State) : exec i s = .next ((effect i s).apply s) := by
  have desc : ∀ cls idx wl, getDescriptor cls idx wl s = (descriptorEffect cls idx wl s).apply s := fun cls idx wl =>
    sendLookup_eq_effect _ _ wl s _ rfl
  have status : ∀ before st wl, stageAndSend (statusReply st) s.params.getStatusLen wl
      { s with trace := s.trace ++ before } = (statusEffect before st wl s).apply s := by
    intro before st wl
    rw [stageAndSend_eq]
    simp only [statusReply, memWrite_two]
    exact send_eq_effect before _ _ s _ (by simp [State.writeEp0, memWrite_two])
  cases i with
  | getDescriptorDevice idx wi wl => exact congrArg _ (desc _ idx wl)
  | getDescriptorConfiguration idx wi wl => exact congrArg _ (desc _ idx wl)
  | getDescriptorString idx wi wl => exact congrArg _ (desc _ idx wl)
  | getDescriptorBos idx wi wl => exact congrArg _ (desc _ idx wl)
  | getDescriptorOther cls idx wi wl => exact congrArg _ (desc cls idx wl)
  | getConfiguration wv wi wl =>
    refine congrArg Host.Outcome.next (?_ : stageAndSend [s.config] s.params.getConfigurationLen wl s = _)
    rw [stageAndSend_eq, memWrite_one]
    exact send_eq_effect [] _ _ s _ (by simp [State.writeEp0, memWrite_one])
  | getStatusDev wv wi wl => exact congrArg _ (by simpa using status [] false wl)
  | getStatusIf wv wi wl => exact congrArg _ (by simpa using status [] false wl)
  | getStatusEp wv wi wl => exact congrArg _ (status [.queryEndpointStallState wi s.answers.stalled] _ wl)
  | setFeature wv wi wl => simp [exec, execSetFeature, raiseReject_eq, effect, rejectEffect, Effect.apply]
  | setSel wv wi wl => simp [exec, execSetSel, raiseReject_eq, effect, rejectEffect, Effect.apply]
  | setIsocDelay wv wi wl => simp [exec, execSetIsocDelay, raiseReject_eq, effect, rejectEffect, Effect.apply]
  | setConfiguration wi wl =>
    refine congrArg Host.Outcome.next (?_ : setConfiguration s = _)
    rcases h : s.answers.ack with _ | _
    · rw [setConfiguration_ok s h]; simp [effect, setConfigurationEffect, h, Effect.apply]
    · rw [setConfiguration_fail s h]; simp [effect, setConfigurationEffect, h, rejectEffect, Effect.apply]
  | msCompatId wv wl => exact congrArg _ (sendLookup_eq_effect [] _ wl s s (by simp))
  | msExtProps wv wl => exact congrArg _ (sendLookup_eq_effect [] _ wl s s (by simp))
  | vendorRead wv wi wl =>
    have e : exec (.vendorRead wv wi wl) s = .next (send (s.ep0buf.take (min s.params.ep0bufCap wl.toNat)) s) := by
      simp [exec, execVendorRead, clampLength]
    rw [e]
    exact congrArg _ (send_eq_effect [] s.ep0buf _ s s (by simp))
  | vendorWrite wv wi wl =>
    refine congrArg Host.Outcome.next (?_ : vendorWrite wl s = _)
    rcases h : s.answers.receive with _ | _
    · rw [vendorWrite_ok s wl _ h rfl]; simp [effect, vendorWriteEffect, h, Effect.apply]
    · rw [vendorWrite_fail s wl _ h rfl]
      simp [effect, vendorWriteEffect, h, Effect.apply, raiseReject_eq, spoilWindow, State.record, State.setRxlen,
        State.writeEp0]
  | rejectDefault bm rq wv wi wl =>
    simp [exec, execRejectDefault, raiseReject_eq, effect, rejectEffect, Effect.apply]

end Sys2Proof.Machine
end

