-- ==== Sys2Proof/Laws/Match.lean ====
section
/-! SUPPORT. The match on the composite key, said on the packet's bytes: which first byte, request code, value and index
select which row (30_encoding.md R86, R88). -/

namespace Sys2Proof

/-- `MATCH` by the packet's first byte and its request code. -/
theorem matchRequest_eq (p : Params) (r : SetupRequest) (hk : r.key = keyOf r.bmRequestType r.bRequest) :
    matchRequest p r =
    if r.bmRequestType = 0x80 ∧ r.bRequest = p.rqGetDescriptor then getDescriptorRow p r
    else if r.bmRequestType = 0x80 ∧ r.bRequest = p.rqGetConfiguration then .getConfiguration r.wValue r.wIndex r.wLength
    else if r.bmRequestType = 0x80 ∧ r.bRequest = p.rqGetStatus then .getStatusDev r.wValue r.wIndex r.wLength
    else if r.bmRequestType = 0x81 ∧ r.bRequest = p.rqGetStatus then .getStatusIf r.wValue r.wIndex r.wLength
    else if r.bmRequestType = 0x82 ∧ r.bRequest = p.rqGetStatus then .getStatusEp r.wValue r.wIndex r.wLength
    else if r.bmRequestType = 0x00 ∧ r.bRequest = p.rqSetFeature then .setFeature r.wValue r.wIndex r.wLength
    else if r.bmRequestType = 0x00 ∧ r.bRequest = p.rqSetSel then .setSel r.wValue r.wIndex r.wLength
    else if r.bmRequestType = 0x00 ∧ r.bRequest = p.rqSetIsocDelay then .setIsocDelay r.wValue r.wIndex r.wLength
    else if (r.bmRequestType = 0x00 ∧ r.bRequest = p.rqSetConfiguration) ∧ r.wValue = p.configValid then
      .setConfiguration r.wIndex r.wLength
    else if (r.bmRequestType = 0xC0 ∧ r.bRequest = p.msVendorCode) ∧ r.wIndex = p.msCompatIdIndex then
      .msCompatId r.wValue r.wLength
    else if (r.bmRequestType = 0xC1 ∧ r.bRequest = p.msVendorCode) ∧ r.wIndex = p.msExtPropIndex then
      .msExtProps r.wValue r.wLength
    else if r.bmRequestType = 0xC1 ∧ r.bRequest = p.vendorReqData then .vendorRead r.wValue r.wIndex r.wLength
    else if r.bmRequestType = 0x41 ∧ r.bRequest = p.vendorReqData then .vendorWrite r.wValue r.wIndex r.wLength
    else .rejectDefault r.bmRequestType r.bRequest r.wValue r.wIndex r.wLength := by
  have h := fun c => keyOf_eq_iff r.bmRequestType r.bRequest c
  simp only [matchRequest, hk, (h _).1, (h _).2.1, (h _).2.2.1, (h _).2.2.2.1, (h _).2.2.2.2.1, (h _).2.2.2.2.2.1,
    (h _).2.2.2.2.2.2]

/-- The key of any decoded packet is the key of its first two bytes. -/
theorem decodeSetup_key (w0 w1 : Word) :
    (decodeSetup w0 w1).key = keyOf (decodeSetup w0 w1).bmRequestType (decodeSetup w0 w1).bRequest :=
  key_decodeSetup w0 w1

/-- To show a property of a decision between two instructions, show it of each. -/
theorem ite_elim (P : Instr → Prop) {c : Prop} [Decidable c] {a b : Instr} (ha : c → P a) (hb : ¬c → P b) :
    P (if c then a else b) := by
  split
  · exact ha ‹_›
  · exact hb ‹_›

/-- The two bytes of the low half of a word, when that half is known. -/
theorem lowBytes_of_lowHalf {w : Word} {c : Half} (h : w.extractLsb' 0 16 = c) :
    w.extractLsb' 0 8 = c.extractLsb' 0 8 ∧ w.extractLsb' 8 8 = c.extractLsb' 8 8 := by
  subst h
  constructor <;> apply BitVec.eq_of_toNat_eq <;> simp only [extractLsb'_toNat] <;> omega

/-- A packet's number is its two words side by side (R81). -/
theorem packetOf_eq_append (w0 w1 : Word) : packetOf w0 w1 = w1 ++ w0 := by
  apply BitVec.eq_of_toNat_eq
  have := w0.isLt
  have := w1.isLt
  simp only [packetOf, BitVec.toNat_ofNat, BitVec.toNat_append]
  rw [← Nat.shiftLeft_add_eq_or_of_lt ‹BitVec.toNat w0 < _›]
  simp only [Nat.shiftLeft_eq]
  omega

/-- A word is its class byte, its sub-index byte and its low half side by side (R81, R84). -/
theorem word_eq_append (w : Word) : w = w.extractLsb' 24 8 ++ (w.extractLsb' 16 8 ++ w.extractLsb' 0 16) := by
  apply BitVec.eq_of_toNat_eq
  have h := w.isLt
  simp only [BitVec.toNat_append, extractLsb'_toNat]
  rw [← Nat.shiftLeft_add_eq_or_of_lt (b := w.toNat / 2 ^ 0 % 2 ^ 16) (by omega),
    ← Nat.shiftLeft_add_eq_or_of_lt (by omega)]
  simp only [Nat.shiftLeft_eq]
  omega

/-- The mask of a row that fixes the first two bytes (R87). -/
theorem and_lowHalf (w : Word) : w &&& 0x0000FFFF = 0#8 ++ (0#8 ++ w.extractLsb' 0 16) := by
  conv =>
    lhs
    rw [word_eq_append w,
      show (0x0000FFFF : Word) = 0#8 ++ (0#8 ++ BitVec.allOnes 16) from rfl,
      BitVec.and_append, BitVec.and_append, BitVec.and_zero, BitVec.and_zero, BitVec.and_allOnes]

/-- The mask of a row that fixes the class byte as well (R87). -/
theorem and_classAndLowHalf (w : Word) : w &&& 0xFF00FFFF = w.extractLsb' 24 8 ++ (0#8 ++ w.extractLsb' 0 16) := by
  conv =>
    lhs
    rw [word_eq_append w,
      show (0xFF00FFFF : Word) = BitVec.allOnes 8 ++ (0#8 ++ BitVec.allOnes 16) from rfl,
      BitVec.and_append, BitVec.and_append, BitVec.and_zero, BitVec.and_allOnes, BitVec.and_allOnes]

end Sys2Proof
end

