-- ==== Sys2Proof/Laws/PerInstr.lean ====
section
/-! SUPPORT. Statements about every instruction, one lemma per constructor. Family LengthKept: the maximum length `L` of
a request survives its encoding (30_encoding.md R81, R98). -/

namespace Sys2Proof.Laws.LengthKept

/-- The decoder reads the length the encoder was given, under any parameters. -/
def Statement (i : Instr) : Prop :=
  ∀ p : Params, (decodeSetup (encode p i).1 (encode p i).2).wLength = i.maxLength

theorem getDescriptorDevice (idx : Byte) (wi : Half) (wl : Half) : Statement (.getDescriptorDevice idx wi wl) := by
  simp [Statement, encode, decodeSetup_encodeFields, Instr.maxLength]

theorem getDescriptorConfiguration (idx : Byte) (wi : Half) (wl : Half) : Statement (.getDescriptorConfiguration idx wi wl) := by
  simp [Statement, encode, decodeSetup_encodeFields, Instr.maxLength]

theorem getDescriptorString (idx : Byte) (wi : Half) (wl : Half) : Statement (.getDescriptorString idx wi wl) := by
  simp [Statement, encode, decodeSetup_encodeFields, Instr.maxLength]

theorem getDescriptorBos (idx : Byte) (wi : Half) (wl : Half) : Statement (.getDescriptorBos idx wi wl) := by
  simp [Statement, encode, decodeSetup_encodeFields, Instr.maxLength]

theorem getDescriptorOther (cls : Byte) (idx : Byte) (wi : Half) (wl : Half) : Statement (.getDescriptorOther cls idx wi wl) := by
  simp [Statement, encode, decodeSetup_encodeFields, Instr.maxLength]

theorem getConfiguration (wv : Half) (wi : Half) (wl : Half) : Statement (.getConfiguration wv wi wl) := by
  simp [Statement, encode, decodeSetup_encodeFields, Instr.maxLength]

theorem getStatusDev (wv : Half) (wi : Half) (wl : Half) : Statement (.getStatusDev wv wi wl) := by
  simp [Statement, encode, decodeSetup_encodeFields, Instr.maxLength]

theorem getStatusIf (wv : Half) (wi : Half) (wl : Half) : Statement (.getStatusIf wv wi wl) := by
  simp [Statement, encode, decodeSetup_encodeFields, Instr.maxLength]

theorem getStatusEp (wv : Half) (wi : Half) (wl : Half) : Statement (.getStatusEp wv wi wl) := by
  simp [Statement, encode, decodeSetup_encodeFields, Instr.maxLength]

theorem setFeature (wv : Half) (wi : Half) (wl : Half) : Statement (.setFeature wv wi wl) := by
  simp [Statement, encode, decodeSetup_encodeFields, Instr.maxLength]

theorem setSel (wv : Half) (wi : Half) (wl : Half) : Statement (.setSel wv wi wl) := by
  simp [Statement, encode, decodeSetup_encodeFields, Instr.maxLength]

theorem setIsocDelay (wv : Half) (wi : Half) (wl : Half) : Statement (.setIsocDelay wv wi wl) := by
  simp [Statement, encode, decodeSetup_encodeFields, Instr.maxLength]

theorem setConfiguration (wi : Half) (wl : Half) : Statement (.setConfiguration wi wl) := by
  simp [Statement, encode, decodeSetup_encodeFields, Instr.maxLength]

theorem msCompatId (wv : Half) (wl : Half) : Statement (.msCompatId wv wl) := by
  simp [Statement, encode, decodeSetup_encodeFields, Instr.maxLength]

theorem msExtProps (wv : Half) (wl : Half) : Statement (.msExtProps wv wl) := by
  simp [Statement, encode, decodeSetup_encodeFields, Instr.maxLength]

theorem vendorRead (wv : Half) (wi : Half) (wl : Half) : Statement (.vendorRead wv wi wl) := by
  simp [Statement, encode, decodeSetup_encodeFields, Instr.maxLength]

theorem vendorWrite (wv : Half) (wi : Half) (wl : Half) : Statement (.vendorWrite wv wi wl) := by
  simp [Statement, encode, decodeSetup_encodeFields, Instr.maxLength]

theorem rejectDefault (bm : Byte) (rq : Byte) (wv : Half) (wi : Half) (wl : Half) : Statement (.rejectDefault bm rq wv wi wl) := by
  simp [Statement, encode, decodeSetup_encodeFields, Instr.maxLength]

end Sys2Proof.Laws.LengthKept
end

