-- ==== Sys2Proof/Laws/Run.lean ====
section
/-! SUPPORT. Steps and runs as one-way chains: a step always answers a next state, and a run is its first step and the
run from there. -/

namespace Sys2Proof.Machine

/-- A step always answers a next state: it takes the event at the head of the list, if there is one, and leaves the
descriptor table and the parameters alone (10_state.md R22, R48). -/
theorem step_next (s : State) : ∃ t, step s = .next t ∧ t.pending = s.pending.drop 1 ∧
    t.eventIndex = s.eventIndex + min 1 s.pending.length ∧ t.rom = s.rom ∧ t.params = s.params := by
  unfold step
  rcases hp : s.pending with _ | ⟨input, rest⟩
  · exact ⟨s, rfl, by simp [hp], by simp, rfl, rfl⟩
  · rcases he : input.event with ⟨w0, w1⟩ | ⟨kind, aux⟩
    · refine ⟨(effect (decodeWords s.params w0 w1) (s.takeInput input rest)).apply (s.takeInput input rest), ?_, ?_⟩
      · simpa only [he, handleSetup, State.takeInput_params] using exec_eq_effect _ _
      · simp [State.takeInput]
    · cases kind with
      | reset =>
        exact ⟨busReset (s.takeInput input rest), by simp [he, handleBusEvent],
          by simp [busReset_eq, State.takeInput]⟩
      | other =>
        exact ⟨busOther (s.takeInput input rest), by simp [he, handleBusEvent],
          by simp [busOther_eq, State.takeInput]⟩

/-- A run of no steps ends where it starts. -/
theorem run_zero_eq {s t : State} (h : core.run 0 s = .next t) : s = t :=
  Host.Outcome.next.inj h

/-- A run is its first step and the run from there. -/
theorem run_succ (k : Nat) {s t : State} (h : step s = .next t) : core.run (k + 1) s = core.run k t := by
  have e : core.step s = .next t := h
  simp only [Host.Core.run, e]

/-- A run in two parts. -/
theorem run_add (a b : Nat) {s t : State} (h : core.run a s = .next t) : core.run (a + b) s = core.run b t := by
  induction a generalizing s with
  | zero => rw [run_zero_eq h, Nat.zero_add]
  | succ a ih =>
    obtain ⟨u, hu, -⟩ := step_next s
    rw [run_succ a hu] at h
    rw [Nat.add_right_comm, run_succ (a + b) hu]
    exact ih h

end Sys2Proof.Machine
end

