-- ==== Sys2Proof/Tests/Slice0.lean ====
section
/-! SUPPORT. The model's own tests: ill-formed terms the check refuses, words and bytes of the spec's vectors decoded, one
step of every request, and for every obligation with hypotheses a state and operands that meet them. Expected results
are the vectors of spec/95_test_vectors.md, named by their ids. -/

namespace Sys2Proof.Tests

open Sys2Proof Sys2Proof.Machine

/-! ### The fixtures of 95_test_vectors.md section 0 -/

/-- FIX1, the spec's own test data. -/
def fix1Data : RomData where
  devHs := some [0x12, 0x01, 0x10, 0x02, 0, 0, 0, 0x40, 0xB4, 0x04, 0x01, 0x01, 0, 0, 1, 2, 3, 1]
  devSs := some [0x12, 0x01, 0x00, 0x03, 0, 0, 0, 0x09, 0xB4, 0x04, 0x01, 0x01, 0, 0, 1, 2, 3, 1]
  cfgHs := some [0x09, 0x02, 0x12, 0, 1, 1, 0, 0x80, 0x32, 0x09, 0x04, 0, 0, 0, 0xFF, 0, 0, 0]
  cfgSs := some [0x09, 0x02, 0x12, 0, 1, 1, 0, 0x80, 0x0C, 0x09, 0x04, 0, 0, 0, 0xFF, 0, 0, 0]
  bos := some [0x05, 0x0F, 0x16, 0, 2, 7, 0x10, 2, 2, 0, 0, 0, 0x0A, 0x10, 3, 0, 0x0E, 0, 3, 0, 0, 0]
  strLangid := some [4, 3, 9, 4]
  strManufacturer := some [4, 3, 0x41, 0]
  strProduct := some [4, 3, 0x42, 0]
  strSerial := some [4, 3, 0x31, 0]
  strMsos := some [0x12, 3, 0x4D, 0, 0x53, 0, 0x46, 0, 0x54, 0, 0x31, 0, 0x30, 0, 0x30, 0, 0xAE, 0]
  msCompatId := some ([0x28, 0, 0, 0, 0, 1, 4, 0, 1, 0, 0, 0, 0, 0, 0, 0, 0, 1, 0x57, 0x49, 0x4E, 0x55, 0x53, 0x42]
    ++ List.replicate 16 0)
  msExtProps := some [0x0A, 0, 0, 0, 0, 1, 5, 0, 0, 0]

/-- FIX1 is well formed. -/
def fix1 : Rom := { data := fix1Data }

/-- FIX2: `CFG_HS` has two more bytes stored than it declares. -/
def fix2 : Rom :=
  { data := { fix1Data with
      cfgHs := some [0x09, 0x02, 0x12, 0, 1, 1, 0, 0x80, 0x32, 0x09, 0x04, 0, 0, 0, 0xFF, 0, 0, 0, 0xDE, 0xAD] } }

/-- The hardware's parameters with `SUBINDEX_STRICT` = false. -/
def lax : Params := { Config.params with subindexStrict := false }

/-- The hardware's parameters but for a few codes: a device that another table describes (00_scope.md R9). -/
def retargeted : Params :=
  { Config.params with rqSetSel := 0x32, dtBos := 0x10, configValid := 0x0002, vendorReqData := 0xFE, wf := by decide }

/-- The hardware's parameters with a buffer of 8 bytes. -/
def small : Params := { Config.params with ep0bufCap := 8, wf := by decide }

/-- High speed, not stalled, every transfer succeeds, the host sends four bytes. -/
def answersOk : Answers := ⟨.high, false, .ok, .ok, .ok, [0xDE, 0xAD, 0xBE, 0xEF]⟩

/-- As `answersOk` at Super speed with the endpoint stalled. -/
def answersSuper : Answers := { answersOk with speed := .super, stalled := true }

/-- The speed is unknown and every transfer fails. -/
def answersFail : Answers := ⟨.unknown, true, .fail, .fail, .fail, [0x01]⟩

/-- A state with `EP0BUF = 0xAA^64`, `RXLEN = 64` and FIX1. -/
def bench (config : Byte) (a : Answers) (events : List Input) : State where
  ep0buf := List.replicate Config.params.ep0bufCap 0xAA
  config := config
  rxlen := Config.params.ep0bufCap
  params := Config.params
  rom := fix1
  pending := events
  answers := a
  eventIndex := 0
  trace := []
  outcome := none

/-- What one step over a setup packet shows: its calls and its outcome. -/
def seen (s : State) (w0 w1 : Word) : Option (List EnvCall × Option SetupOutcome) :=
  match step (s.deliverFirst (.setup w0 w1)) with
  | .next t => some (t.trace, t.outcome)
  | .fault _ => none
  | .refused _ => none

/-- What one step over a setup packet leaves: the first five buffer bytes, `CONFIG` and `RXLEN`. -/
def left (s : State) (w0 w1 : Word) : Option (List Byte × Byte × Nat) :=
  match step (s.deliverFirst (.setup w0 w1)) with
  | .next t => some (t.ep0buf.take 5, t.config, t.rxlen)
  | .fault _ => none
  | .refused _ => none

/-- The one observation of a step that is rejected after the calls `before`. -/
def rejected (before : List EnvCall) (cause : RejectCause) : Option (List EnvCall × Option SetupOutcome) :=
  some (before ++ [.reject], some (.reject cause))

/-! ### WellFormed: one ill-formed term for each check -/

theorem test_wf_refuses_other_with_device_class : (Instr.getDescriptorOther 0x01 0 0 0).wf Config.params = false := by decide
theorem test_wf_refuses_other_with_configuration_class : (Instr.getDescriptorOther 0x02 0 0 0).wf Config.params = false := by decide
theorem test_wf_refuses_other_with_string_class : (Instr.getDescriptorOther 0x03 0 0 0).wf Config.params = false := by decide
theorem test_wf_refuses_other_with_bos_class : (Instr.getDescriptorOther 0x0F 0 0 0).wf Config.params = false := by decide
theorem test_wf_refuses_reject_of_get_descriptor : (Instr.rejectDefault 0x80 0x06 0x0600 0 0).wf Config.params = false := by decide
theorem test_wf_refuses_reject_of_get_configuration : (Instr.rejectDefault 0x80 0x08 0 0 1).wf Config.params = false := by decide
theorem test_wf_refuses_reject_of_get_status : (Instr.rejectDefault 0x80 0x00 0 0 2).wf Config.params = false ∧
    (Instr.rejectDefault 0x81 0x00 0 0 2).wf Config.params = false ∧ (Instr.rejectDefault 0x82 0x00 0 0 2).wf Config.params = false := by decide
theorem test_wf_refuses_reject_of_unsupported : (Instr.rejectDefault 0x00 0x03 0 0 0).wf Config.params = false ∧
    (Instr.rejectDefault 0x00 0x30 0 0 0).wf Config.params = false ∧ (Instr.rejectDefault 0x00 0x31 0 0 0).wf Config.params = false := by decide
theorem test_wf_refuses_reject_of_set_configuration : (Instr.rejectDefault 0x00 0x09 0x0001 0 0).wf Config.params = false := by decide
theorem test_wf_refuses_reject_of_ms_requests : (Instr.rejectDefault 0xC0 0xAE 0 0x0004 0).wf Config.params = false ∧
    (Instr.rejectDefault 0xC1 0xAE 0 0x0005 0).wf Config.params = false := by decide
theorem test_wf_refuses_reject_of_vendor_channel : (Instr.rejectDefault 0xC1 0xFF 0 0 0).wf Config.params = false ∧
    (Instr.rejectDefault 0x41 0xFF 0 0 0).wf Config.params = false := by decide
/-- A well-formed term under one table of parameters is ill formed under another. -/
theorem test_wf_takes_the_parameters : (Instr.getDescriptorOther 0x10 0 0 0).wf Config.params = true ∧
    (Instr.getDescriptorOther 0x10 0 0 0).wf retargeted = false ∧
    (Instr.rejectDefault 0x00 0x30 0 0 0).wf retargeted = true := by decide
/-- Tables of parameters the model refuses: two requests, two classes, two strings, two vendor requests with one code,
a reply longer than
what is staged for it, and a buffer too small to stage it. -/
theorem test_wf_refuses_ambiguous_parameters :
    { Config.params.toParamTable with rqSetSel := 0x03 }.wf = false ∧
    { Config.params.toParamTable with dtBos := 0x01 }.wf = false ∧
    { Config.params.toParamTable with msOsStringIndex := 3 }.wf = false ∧
    { Config.params.toParamTable with msVendorCode := 0xFF }.wf = false ∧
    { Config.params.toParamTable with ep0bufCap := 1 }.wf = false ∧
    { Config.params.toParamTable with getStatusLen := 3 }.wf = false ∧
    { Config.params.toParamTable with getConfigurationLen := 2 }.wf = false := by decide
/-- The guards' other side (V-SC3, V-SC5, V-MS6 to V-MS8): these packets are REJECT_DEFAULT. -/
theorem test_wf_accepts_guard_failures : (Instr.rejectDefault 0x00 0x09 0x0000 0 0).wf Config.params = true ∧
    (Instr.rejectDefault 0x00 0x09 0x0101 0 0).wf Config.params = true ∧ (Instr.rejectDefault 0xC0 0xAE 0 0x0005 0x28).wf Config.params = true ∧
    (Instr.rejectDefault 0xC1 0xAE 0 0x0004 0x28).wf Config.params = true ∧
    (Instr.rejectDefault 0xC0 0xAE 0 0x0104 0x28).wf Config.params = true := by decide

/-! ### Decode: words written out from the spec's encodings -/

/-- V-DEC1, V-DEC2, V-DEC5, V-DEC7 to V-DEC10. -/
theorem test_decoder_fields :
    decodeSetup 0x00000000 0x00000000 = ⟨0, 0, 0, 0x00, 0x0000, 0x0000, 0x0000⟩ ∧
    decodeSetup 0xFFFFFFFF 0xFFFFFFFF = ⟨1, 3, 31, 0xFF, 0xFFFF, 0xFFFF, 0xFFFF⟩ ∧
    decodeSetup 0x12345678 0x9ABCDEF0 = ⟨0, 3, 24, 0x56, 0x1234, 0xDEF0, 0x9ABC⟩ ∧
    decodeSetup 0x00000083 0x00000000 = ⟨1, 0, 3, 0x00, 0x0000, 0x0000, 0x0000⟩ ∧
    decodeSetup 0x000000A5 0x00000000 = ⟨1, 1, 5, 0x00, 0x0000, 0x0000, 0x0000⟩ ∧
    decodeSetup 0x00000080 0x80000000 = ⟨1, 0, 0, 0x00, 0x0000, 0x0000, 0x8000⟩ ∧
    decodeSetup 0x00010000 0x00000001 = ⟨0, 0, 0, 0x00, 0x0001, 0x0001, 0x0000⟩ := by decide
/-- V-DEC5, wire bytes. -/
theorem test_wire_bytes_low_first :
    packetBytes (0x12345678, 0x9ABCDEF0) = [0x78, 0x56, 0x34, 0x12, 0xF0, 0xDE, 0xBC, 0x9A] := by decide
/-- V-DEC3 and V-DEC4 from their wire bytes; a byte after the packet is left. -/
theorem test_decode_bytes :
    decode Config.params [0x80, 0x06, 0x00, 0x01, 0x00, 0x00, 0x12, 0x00, 0x77] = .ok (.getDescriptorDevice 0 0 0x0012, [0x77]) ∧
    decode Config.params [0x41, 0xFF, 0x00, 0x00, 0x00, 0x00, 0x40, 0x00] = .ok (.vendorWrite 0 0 0x0040, []) := by
  constructor <;> rfl
/-- Fewer than 8 bytes are no packet (30_encoding.md R80). -/
theorem test_decode_rejects_short_lists :
    decode Config.params [] = .error .fewerThanEightBytes ∧
    decode Config.params [0x80, 0x06, 0x00, 0x01, 0x00, 0x00, 0x12] = .error .fewerThanEightBytes := by
  constructor <;> rfl
/-- V-GD1, V-GD8, V-GD15, V-GD12, V-GD19. -/
theorem test_decode_get_descriptor :
    decodeWords Config.params 0x01000680 0x00400000 = .getDescriptorDevice 0x00 0x0000 0x0040 ∧
    decodeWords Config.params 0x02000680 0x00090000 = .getDescriptorConfiguration 0x00 0x0000 0x0009 ∧
    decodeWords Config.params 0x03020680 0x00FF0409 = .getDescriptorString 0x02 0x0409 0x00FF ∧
    decodeWords Config.params 0x0F000680 0x00050000 = .getDescriptorBos 0x00 0x0000 0x0005 ∧
    decodeWords Config.params 0x06000680 0x000A0000 = .getDescriptorOther 0x06 0x00 0x0000 0x000A := by decide
/-- V-GC6, V-GS13, V-GS4, V-GS10. -/
theorem test_decode_status :
    decodeWords Config.params 0x12340880 0x00015678 = .getConfiguration 0x1234 0x5678 0x0001 ∧
    decodeWords Config.params 0xFFFF0080 0x00020003 = .getStatusDev 0xFFFF 0x0003 0x0002 ∧
    decodeWords Config.params 0x00000081 0x00020007 = .getStatusIf 0x0000 0x0007 0x0002 ∧
    decodeWords Config.params 0x00000082 0x0002FFFF = .getStatusEp 0x0000 0xFFFF 0x0002 := by decide
/-- V-RF5, V-RF3, V-RF4, V-SC9. -/
theorem test_decode_set_requests :
    decodeWords Config.params 0xFFFF0300 0xFFFFFFFF = .setFeature 0xFFFF 0xFFFF 0xFFFF ∧
    decodeWords Config.params 0x00003000 0x00060000 = .setSel 0x0000 0x0000 0x0006 ∧
    decodeWords Config.params 0x00283100 0x00000000 = .setIsocDelay 0x0028 0x0000 0x0000 ∧
    decodeWords Config.params 0x00010900 0x00080007 = .setConfiguration 0x0007 0x0008 := by decide
/-- V-MS11, V-MS4, V-VR4, V-VW7. -/
theorem test_decode_vendor :
    decodeWords Config.params 0xBEEFAEC0 0x00280004 = .msCompatId 0xBEEF 0x0028 ∧
    decodeWords Config.params 0x0000AEC1 0x000A0005 = .msExtProps 0x0000 0x000A ∧
    decodeWords Config.params 0x0000FFC1 0xFFFF0000 = .vendorRead 0x0000 0x0000 0xFFFF ∧
    decodeWords Config.params 0x1234FF41 0x00010009 = .vendorWrite 0x1234 0x0009 0x0001 := by decide
/-- V-SC3, V-SC10, V-SC11, V-MS8, V-MS10. -/
theorem test_decode_guard_failures :
    decodeWords Config.params 0x00000900 0x00000000 = .rejectDefault 0x00 0x09 0x0000 0x0000 0x0000 ∧
    decodeWords Config.params 0x00010901 0x00000000 = .rejectDefault 0x01 0x09 0x0001 0x0000 0x0000 ∧
    decodeWords Config.params 0x00010980 0x00000000 = .rejectDefault 0x80 0x09 0x0001 0x0000 0x0000 ∧
    decodeWords Config.params 0x0000AEC0 0x00280104 = .rejectDefault 0xC0 0xAE 0x0000 0x0104 0x0028 ∧
    decodeWords Config.params 0x0000AE40 0x00000004 = .rejectDefault 0x40 0xAE 0x0000 0x0004 0x0000 := by decide
/-- V-RJ7, V-RJ8, V-RJ11, V-RJ15 to V-RJ17. -/
theorem test_decode_near_misses :
    decodeWords Config.params 0x01000681 0x00120000 = .rejectDefault 0x81 0x06 0x0100 0x0000 0x0012 ∧
    decodeWords Config.params 0x01000600 0x00120000 = .rejectDefault 0x00 0x06 0x0100 0x0000 0x0012 ∧
    decodeWords Config.params 0x00000083 0x00020000 = .rejectDefault 0x83 0x00 0x0000 0x0000 0x0002 ∧
    decodeWords Config.params 0x01000660 0x00120000 = .rejectDefault 0x60 0x06 0x0100 0x0000 0x0012 ∧
    decodeWords Config.params 0x010006A0 0x00120000 = .rejectDefault 0xA0 0x06 0x0100 0x0000 0x0012 ∧
    decodeWords Config.params 0x0000FFC0 0x00400000 = .rejectDefault 0xC0 0xFF 0x0000 0x0000 0x0040 := by decide
/-- The codes are arguments: another table makes another request of the same words (00_scope.md R9). -/
theorem test_decode_retargeted :
    decodeWords retargeted 0x00003000 0x00060000 = .rejectDefault 0x00 0x30 0x0000 0x0000 0x0006 ∧
    decodeWords retargeted 0x00003200 0x00060000 = .setSel 0x0000 0x0000 0x0006 ∧
    decodeWords retargeted 0x10000680 0x00050000 = .getDescriptorBos 0x00 0x0000 0x0005 ∧
    decodeWords retargeted 0x00020900 0x00000000 = .setConfiguration 0x0000 0x0000 ∧
    decodeWords retargeted 0x0000FEC1 0x00400000 = .vendorRead 0x0000 0x0000 0x0040 := by decide
/-- V-GD15 and V-MS4 the other way round (30_encoding.md R96, R98). -/
theorem test_encode :
    encode Config.params (.getDescriptorString 0x02 0x0409 0x00FF) = (0x03020680, 0x00FF0409) ∧
    encode Config.params (.msExtProps 0x0000 0x000A) = (0x0000AEC1, 0x000A0005) := by decide
/-- The table's bit numbering: bit 0 is the first word's, the second word starts at bit 32 (V-MS4). -/
theorem test_decodeTableWord : decodeTableWord 64 0x000A00050000AEC1 = some (.msExtProps 0x0000 0x000A) := by rfl

/-! ### The Descriptor Store -/

/-- V-LK1 to V-LK7, and V-LK4 with `SUBINDEX_STRICT` = false. -/
theorem test_lookup :
    lookup Config.params fix1 0x01 0 .high = some .devHs ∧ lookup Config.params fix1 0x01 0 .super = some .devSs ∧
    lookup Config.params fix1 0x01 0 .unknown = none ∧ lookup Config.params fix1 0x02 1 .high = none ∧
    lookup lax fix1 0x02 1 .high = some .cfgHs ∧ lookup Config.params fix1 0x0F 0 .unknown = some .bos ∧
    lookup Config.params fix1 0x03 0xEE .unknown = some .strMsos ∧ lookup Config.params fix1 0x03 0xEF .high = none := by decide
/-- V-LK11: an empty slot is a miss. -/
theorem test_lookup_empty_slot : lookup Config.params { data := { fix1Data with strProduct := none } } 0x03 2 .high = none := by
  decide
/-- V-LK9: the two bytes stored beyond the declared length are never sent. -/
theorem test_trunc_declared_length : (trunc fix2 .cfgHs 255).length = 18 := by decide
/-- V-LK10. -/
theorem test_trunc_clamps : (trunc fix1 .bos 0).length = 0 ∧ (trunc fix1 .bos 1).length = 1 ∧
    (trunc fix1 .bos 22).length = 22 ∧ (trunc fix1 .bos 23).length = 22 := by decide
/-- FIX1 fills all twelve slots (41_descriptor_store.md R121); a table with an empty slot does not. -/
theorem test_full_table : fix1Data.full = true ∧ RomData.full { fix1Data with msExtProps := none } = false := by decide
/-- An ill-formed table (41_descriptor_store.md R126): a slot that stores less than it declares, a composite set without
its length bytes. -/
theorem test_ill_formed_tables : RomData.wf { devHs := some [0x12, 0x01] } = false ∧
    RomData.wf { bos := some [0x05, 0x0F, 0x03] } = false ∧ RomData.wf { strMsos := some [] } = false := by decide

/-! ### One step of every request -/

/-- V-GD4 -/
theorem test_get_descriptor_device : seen (bench 0 answersOk []) 0x01000680 0x00080000 =
    some ([.queryLinkSpeed .high, .sendResponse [0x12, 0x01, 0x10, 0x02, 0, 0, 0, 0x40] .ok],
      some (.respond [0x12, 0x01, 0x10, 0x02, 0, 0, 0, 0x40])) := by decide
/-- V-GD6 -/
theorem test_get_descriptor_device_unknown_speed : seen (bench 0 answersFail []) 0x01000680 0x00120000 =
    rejected [.queryLinkSpeed .unknown] .lookupMiss := by decide
/-- V-GD8 -/
theorem test_get_descriptor_configuration : seen (bench 0 answersOk []) 0x02000680 0x00090000 =
    some ([.queryLinkSpeed .high, .sendResponse [0x09, 0x02, 0x12, 0, 1, 1, 0, 0x80, 0x32] .ok],
      some (.respond [0x09, 0x02, 0x12, 0, 1, 1, 0, 0x80, 0x32])) := by decide
/-- V-GD15 -/
theorem test_get_descriptor_string : seen (bench 0 answersSuper []) 0x03020680 0x00FF0409 =
    some ([.queryLinkSpeed .super, .sendResponse [4, 3, 0x42, 0] .ok], some (.respond [4, 3, 0x42, 0])) := by decide
/-- V-GD17 -/
theorem test_get_descriptor_string_unlisted : seen (bench 0 answersOk []) 0x03040680 0x00FF0409 =
    rejected [.queryLinkSpeed .high] .lookupMiss := by decide
/-- V-GD12 -/
theorem test_get_descriptor_bos : seen (bench 0 answersOk []) 0x0F000680 0x00050000 =
    some ([.queryLinkSpeed .high, .sendResponse [0x05, 0x0F, 0x16, 0, 2] .ok],
      some (.respond [0x05, 0x0F, 0x16, 0, 2])) := by decide
/-- V-GD19 -/
theorem test_get_descriptor_other : seen (bench 0 answersOk []) 0x06000680 0x000A0000 =
    rejected [.queryLinkSpeed .high] .lookupMiss := by decide
/-- V-GC4 -/
theorem test_get_configuration : seen (bench 1 answersOk []) 0x00000880 0x00400000 =
    some ([.sendResponse [0x01] .ok], some (.respond [0x01])) := by decide
/-- V-GC5: the failed send has overwritten `EP0BUF[0]`. -/
theorem test_get_configuration_send_fails : left (bench 1 answersFail []) 0x00000880 0x00010000 =
    some ([0x01, 0xAA, 0xAA, 0xAA, 0xAA], 1, 64) := by decide
/-- V-GS2: two bytes of payload are lost. -/
theorem test_get_status_dev : left (bench 1 answersOk []) 0x00000080 0x00020000 =
    some ([0x00, 0x00, 0xAA, 0xAA, 0xAA], 1, 64) := by decide
/-- V-GS4 -/
theorem test_get_status_if : seen (bench 0 answersOk []) 0x00000081 0x00020007 =
    some ([.sendResponse [0x00, 0x00] .ok], some (.respond [0x00, 0x00])) := by decide
/-- V-GS7 -/
theorem test_get_status_ep : seen (bench 0 answersSuper []) 0x00000082 0x00010081 =
    some ([.queryEndpointStallState 0x0081 true, .sendResponse [0x01] .ok], some (.respond [0x01])) := by decide
/-- V-GS8: no byte is sent, both are staged. -/
theorem test_get_status_ep_stages : left (bench 0 answersSuper []) 0x00000082 0x00000081 =
    some ([0x01, 0x00, 0xAA, 0xAA, 0xAA], 0, 64) := by decide
/-- V-RF5 -/
theorem test_set_feature : seen (bench 0 answersOk []) 0xFFFF0300 0xFFFFFFFF = rejected [] .unsupported := by decide
/-- V-RF3 -/
theorem test_set_sel : seen (bench 0 answersOk []) 0x00003000 0x00060000 = rejected [] .unsupported := by decide
/-- V-RF4 -/
theorem test_set_isoc_delay : seen (bench 0 answersOk []) 0x00283100 0x00000000 = rejected [] .unsupported := by decide
/-- V-SC1: the calls in order. -/
theorem test_set_configuration : seen (bench 0 answersOk []) 0x00010900 0x00000000 =
    some ([.disableLowPower, .notifyApplicationStart, .acknowledge .ok], some .acknowledge) := by decide
/-- V-SC2: a failed acknowledge commits nothing. -/
theorem test_set_configuration_ack_fails : left (bench 0 answersFail []) 0x00010900 0x00000000 =
    some ([0xAA, 0xAA, 0xAA, 0xAA, 0xAA], 0, 64) := by decide
/-- V-MS5, which the compat id request of V-MS2 differs from in selector, target and blob. -/
theorem test_ms_ext_props : seen (bench 0 answersOk []) 0x0000AEC1 0x00040005 =
    some ([.sendResponse [0x0A, 0, 0, 0] .ok], some (.respond [0x0A, 0, 0, 0])) := by decide
/-- V-MS2 with `wLength = 7`. -/
theorem test_ms_compat_id : seen (bench 0 answersOk []) 0x0000AEC0 0x00070004 =
    some ([.sendResponse [0x28, 0, 0, 0, 0, 1, 4] .ok], some (.respond [0x28, 0, 0, 0, 0, 1, 4])) := by decide
/-- V-VR8 -/
theorem test_vendor_read : seen (bench 1 answersOk []) 0x0000FFC1 0x00020000 =
    some ([.sendResponse [0xAA, 0xAA] .ok], some (.respond [0xAA, 0xAA])) := by decide
/-- V-VW2: a short write leaves the tail. -/
theorem test_vendor_write : left (bench 0 answersOk []) 0x0000FF41 0x00040000 =
    some ([0xDE, 0xAD, 0xBE, 0xEF, 0xAA], 0, 4) := by decide
/-- `EP0BUF_CAP` is an argument: with 8 registers a write of 64 asks for 8 bytes, and a read of 64 sends 8
(44_vendor_channel.md R183, R184). -/
theorem test_small_buffer :
    seen { bench 0 answersOk [] with params := small, ep0buf := List.replicate 8 0xAA } 0x0000FF41 0x00400000 =
      some ([.receiveData 8 .ok [0xDE, 0xAD, 0xBE, 0xEF]], some .acknowledge) ∧
    seen { bench 0 answersOk [] with params := small, ep0buf := List.replicate 8 0xAA } 0x0000FFC1 0x00400000 =
      some ([.sendResponse (List.replicate 8 0xAA) .ok], some (.respond (List.replicate 8 0xAA))) := by decide
/-- V-VW6: the calls and the outcome of a failed receive. -/
theorem test_vendor_write_receive_fails :
    seen (bench 0 { answersFail with received := [] } []) 0x0000FF41 0x00080000 =
    rejected [.receiveData 8 .fail []] .transport := by decide
/-- V-RJ1 -/
theorem test_reject_default : seen (bench 0 answersOk []) 0x00050500 0x00000000 = rejected [] .unmatched := by decide

/-! ### Inputs -/

/-- 45_bus_events.md R201: a bus reset leaves `CONFIG` at 1. -/
theorem test_bus_reset : step (bench 1 answersOk [⟨.bus .reset 7, answersFail⟩]) =
    .next { bench 1 answersFail [] with eventIndex := 1, trace := [.notifyApplicationStop] } := by rfl
/-- 45_bus_events.md R202. -/
theorem test_bus_other : step (bench 1 answersOk [⟨.bus .other 7, answersFail⟩]) =
    .next { bench 1 answersFail [] with eventIndex := 1 } := by rfl
/-- A packet of the opcode table placed from outside is the next thing that runs, from reset. -/
theorem test_withFetchWord : step (State.reset.withFetchWord 64 0x0000000000003000) =
    exec (.setSel 0 0 0) { State.reset with eventIndex := 1 } := by rfl

/-! ### Witnesses: states and operands that meet the hypotheses of the obligations, clause by clause -/

/-- O5 -/
theorem witness_DecodeOfEncodeIsIdentity : (Instr.getDescriptorOther 0x10 0xFF 0xFFFF 0xFFFF).wf Config.params = true ∧
    (Instr.rejectDefault 0xFF 0xFF 0xFFFF 0xFFFF 0xFFFF).wf Config.params = true ∧ (Instr.vendorWrite 0xFFFF 0 0).wf Config.params = true := by
  decide
/-- O7: a row that selects a packet. -/
theorem witness_OpcodeTableSelectsTheDecodedRow :
    ⟨"SET_CONFIGURATION", 0x0000000000010900, 0x00000000FFFFFFFF⟩ ∈ opcodeRows ∧
    (⟨"SET_CONFIGURATION", 0x0000000000010900, 0x00000000FFFFFFFF⟩ : OpcodeRow).selects (packetOf 0x00010900 0xFFFFFFFF)
      = true := by decide
/-- O9 -/
theorem witness_StepRunsTheDecodedRequest :
    (bench 0 answersOk [⟨.setup 0x00000880 0x00010000, answersFail⟩]).pending
      = ⟨.setup 0x00000880 0x00010000, answersFail⟩ :: [] ∧
    decodeWords Config.params 0x00000880 0x00010000 = .getConfiguration 0 0 1 := by decide
/-- O10 -/
theorem witness_StepWithoutEventIsIdle : (bench 1 answersOk []).pending = [] := by decide
/-- O11, O12, both clauses. -/
theorem witness_BusEvents :
    (bench 1 answersOk [⟨.bus .reset 0, answersOk⟩]).pending = ⟨.bus .reset 0, answersOk⟩ :: [] ∧
    (bench 1 answersOk [⟨.bus .other 9, answersOk⟩]).pending = ⟨.bus .other 9, answersOk⟩ :: [] := by decide
/-- O15, a slot of each kind, at the smallest blob each allows. -/
theorem witness_AcceptedTablesAreWellFormed :
    ∃ rom : Rom, rom.slot .devHs = some [0] ∧ Slot.devHs.kind = .single ∧ rom.slot .bos = some [0, 0, 4, 0] ∧
      Slot.bos.kind = .composite ∧ rom.slot .msCompatId = some [] :=
  ⟨{ data := { devHs := some [0], bos := some [0, 0, 4, 0], msCompatId := some [] } }, by decide⟩
/-- O16, a miss, a hit that is sent, and a hit whose send fails (the BOS set at speed Unknown). -/
theorem witness_GetDescriptorServesTheLookup :
    ((0x06000680 : Word).extractLsb' 0 8 = 0x80 ∧ (0x06000680 : Word).extractLsb' 8 8 = Config.params.rqGetDescriptor ∧
      lookup Config.params (bench 0 answersOk []).rom 0x06 0x00 .high = none) ∧
    ((0x01000680 : Word).extractLsb' 0 8 = 0x80 ∧ (0x01000680 : Word).extractLsb' 8 8 = Config.params.rqGetDescriptor ∧
      lookup Config.params (bench 0 answersOk []).rom 0x01 0x00 .high = some .devHs ∧
      ((bench 0 answersOk []).rom.slot .devHs).isSome = true ∧ (bench 0 answersOk []).answers.send = .ok) ∧
    ((0x0F000680 : Word).extractLsb' 0 8 = 0x80 ∧ (0x0F000680 : Word).extractLsb' 8 8 = Config.params.rqGetDescriptor ∧
      lookup Config.params (bench 0 answersFail []).rom 0x0F 0x00 .unknown = some .bos ∧
      ((bench 0 answersFail []).rom.slot .bos).isSome = true ∧ (bench 0 answersFail []).answers.send = .fail) := by
  decide
/-- O17 to O19: a sub-index other than 0 where the lookup is not strict. -/
theorem witness_SubindexNotStrict : (0x07 : Byte) ≠ 0 ∧
    ({ bench 0 answersOk [] with params := lax } : State).params.subindexStrict = false ∧
    ({ bench 0 answersOk [] with params := lax } : State).answers.send = .ok := by decide
/-- O17, O18: both speeds. -/
theorem witness_DeviceAndConfigurationDescriptors :
    ((bench 0 answersOk []).answers.speed = .high ∧ ((bench 0 answersOk []).rom.slot .devHs).isSome = true ∧
      ((bench 0 answersOk []).rom.slot .cfgHs).isSome = true ∧ (bench 0 answersOk []).answers.send = .ok) ∧
    ((bench 0 answersSuper []).answers.speed = .super ∧ ((bench 0 answersSuper []).rom.slot .devSs).isSome = true ∧
      ((bench 0 answersSuper []).rom.slot .cfgSs).isSome = true ∧ (bench 0 answersSuper []).answers.send = .ok) := by
  decide
/-- O19, O20: every slot; the sub-indices of O20 are those of the parameters. -/
theorem witness_BosAndStringDescriptors :
    (∀ slot ∈ [Slot.bos, .strLangid, .strManufacturer, .strProduct, .strSerial, .strMsos],
      ((bench 0 answersOk []).rom.slot slot).isSome = true) ∧ (bench 0 answersOk []).answers.send = .ok := by decide
/-- O21: class codes next to the four that have rows. -/
theorem witness_OtherDescriptorClassesMiss : ∀ cls ∈ [(0x00 : Byte), 0x04, 0x0E, 0x10, 0xFF],
    cls ≠ Config.params.dtDevice ∧ cls ≠ Config.params.dtConfiguration ∧ cls ≠ Config.params.dtString ∧ cls ≠ Config.params.dtBos := by decide
/-- O22: speed Unknown, a sub-index next to 0, string sub-indices next to the listed ones. -/
theorem witness_UnknownKeysAreRejected : (bench 0 answersFail []).answers.speed = .unknown ∧ (1 : Byte) ≠ 0 ∧
    (bench 0 answersOk []).params.subindexStrict = true ∧
    (∀ idx ∈ [(4 : Byte), 0xED, 0xEF, 0xFF], idx ∉ [Config.params.strLangidIndex, Config.params.strManufacturerIndex,
      Config.params.strProductIndex, Config.params.strSerialIndex, Config.params.msOsStringIndex]) := by decide
/-- O23 to O27, O29, O32: words that meet the encoding clauses. -/
theorem witness_EncodingClauses :
    (0xFFFF0880 : Word).extractLsb' 0 8 = 0x80 ∧ (0xFFFF0880 : Word).extractLsb' 8 8 = Config.params.rqGetConfiguration ∧
    (0xFFFF0080 : Word).extractLsb' 0 8 = 0x80 ∧ (0xFFFF0080 : Word).extractLsb' 8 8 = Config.params.rqGetStatus ∧
    (0x00000081 : Word).extractLsb' 0 8 = 0x81 ∧ (0x00000081 : Word).extractLsb' 8 8 = Config.params.rqGetStatus ∧
    (0x00000082 : Word).extractLsb' 0 8 = 0x82 ∧ (0x00000082 : Word).extractLsb' 8 8 = Config.params.rqGetStatus ∧
    (0xFFFF0300 : Word).extractLsb' 0 8 = 0x00 ∧ (0xFFFF0300 : Word).extractLsb' 8 8 = Config.params.rqSetFeature ∧
    (0x00003000 : Word).extractLsb' 0 8 = 0x00 ∧ (0x00003000 : Word).extractLsb' 8 8 = Config.params.rqSetSel ∧
    (0x00283100 : Word).extractLsb' 0 8 = 0x00 ∧ (0x00283100 : Word).extractLsb' 8 8 = Config.params.rqSetIsocDelay ∧
    ((0x00010900 : Word).extractLsb' 0 8 = 0x00 ∧ (0x00010900 : Word).extractLsb' 8 8 = Config.params.rqSetConfiguration ∧
      (0x00010900 : Word).extractLsb' 16 16 = Config.params.configValid) ∧
    (0x1234FFC1 : Word).extractLsb' 0 8 = 0xC1 ∧ (0x1234FFC1 : Word).extractLsb' 8 8 = Config.params.vendorReqData := by decide
/-- O23 to O26, O33, O50, O51: the registers have their form, at the hardware's capacity and at another; not with
`RXLEN` beyond the capacity, nor with a register missing. -/
theorem witness_Sized : (bench 0 answersOk []).Sized ∧ (bench 1 answersFail []).Sized ∧
    ({ bench 0 answersOk [] with params := small, ep0buf := List.replicate 8 0xAA, rxlen := 8 } : State).Sized ∧
    ¬({ bench 0 answersOk [] with rxlen := 65 } : State).Sized ∧
    ¬({ bench 0 answersOk [] with ep0buf := List.replicate 63 0xAA } : State).Sized := by decide
/-- O23 to O26, O29 to O34: states in which each transfer succeeds, and in which it fails. -/
theorem witness_Transfers :
    ((bench 0 answersOk []).answers.send = .ok ∧ (bench 0 answersOk []).answers.ack = .ok ∧
      (bench 0 answersOk []).answers.receive = .ok) ∧
    ((bench 1 answersFail []).answers.send = .fail ∧ (bench 1 answersFail []).answers.ack = .fail ∧
      (bench 1 answersFail []).answers.receive = .fail) := by decide
/-- O26: both stall answers. -/
theorem witness_GetStatusEndpointSendsTheStallBit :
    (bench 0 answersSuper []).answers.stalled = true ∧ (bench 0 answersOk []).answers.stalled = false := by decide
/-- O28: a packet no row selects, and a refused configuration number. -/
theorem witness_UnmatchedRequestsReject :
    decodeWords Config.params 0x00050500 0 = .rejectDefault 0x00 0x05 0x0005 0 0 ∧
    listed Config.params 0x00 0x05 0x0005 0 = false ∧
    (0x00020900 : Word).extractLsb' 0 8 = 0x00 ∧ (0x00020900 : Word).extractLsb' 8 8 = Config.params.rqSetConfiguration ∧
    (0x00020900 : Word).extractLsb' 16 16 ≠ Config.params.configValid := by decide
/-- O30, O31: the encoding clauses, a filled slot, an empty slot. -/
theorem witness_MsRequests :
    ((0xBEEFAEC0 : Word).extractLsb' 0 8 = 0xC0 ∧ (0xBEEFAEC0 : Word).extractLsb' 8 8 = Config.params.msVendorCode ∧
      (0x00280004 : Word).extractLsb' 0 16 = Config.params.msCompatIdIndex) ∧
    ((0x0000AEC1 : Word).extractLsb' 0 8 = 0xC1 ∧ (0x0000AEC1 : Word).extractLsb' 8 8 = Config.params.msVendorCode ∧
      (0x000A0005 : Word).extractLsb' 0 16 = Config.params.msExtPropIndex) ∧
    ((bench 0 answersOk []).rom.slot .msCompatId).isSome = true ∧
    (bench 0 answersOk []).rom.slot .msExtProps = some [0x0A, 0, 0, 0, 0, 1, 5, 0, 0, 0] ∧
    ({ bench 0 answersOk [] with rom := {} } : State).rom.slot .msCompatId = none ∧
    ({ bench 0 answersOk [] with rom := {} } : State).rom.slot .msExtProps = none := by decide
/-- O33: the encoding clause, and data shorter than, as long as, and longer than what is asked for. -/
theorem witness_VendorWriteStoresTheReceivedBytes :
    (0x1234FF41 : Word).extractLsb' 0 8 = 0x41 ∧ (0x1234FF41 : Word).extractLsb' 8 8 = Config.params.vendorReqData ∧
    (bench 0 answersOk []).answers.receive = .ok ∧
    [0xDE, 0xAD, 0xBE, 0xEF] = (bench 0 answersOk []).answers.received.take (min Config.params.ep0bufCap (0x0040 : Half).toNat) ∧
    [0xDE, 0xAD, 0xBE, 0xEF] = (bench 0 answersOk []).answers.received.take (min Config.params.ep0bufCap (0x0004 : Half).toNat) ∧
    [0xDE] = (bench 0 answersOk []).answers.received.take (min Config.params.ep0bufCap (0x0001 : Half).toNat) := by decide
/-- O34 -/
theorem witness_FailedVendorWriteRejectsAndKeepsTheTail : (bench 0 answersFail []).answers.receive = .fail ∧
    [0x01] = (bench 0 answersFail []).answers.received.take (min Config.params.ep0bufCap (0x0008 : Half).toNat) := by decide
/-- O35, O43: a request that writes nothing and runs. -/
theorem witness_FrameOfRequestsThatWriteNothing : ∃ t, (Instr.vendorRead 0 0 2).writesNothing = true ∧
    exec (.vendorRead 0 0 2) (bench 1 answersOk []) = .next t := ⟨_, rfl, rfl⟩
/-- O36, O51: each of the four runs. -/
theorem witness_FrameOfStatusReplies : ∀ i ∈ [Instr.getConfiguration 0 0 1, .getStatusDev 0 0 2, .getStatusIf 0 7 2,
    .getStatusEp 0 0x81 2], ∃ t, exec i (bench 1 answersOk []) = .next t :=
  fun i _ => ⟨_, exec_eq_effect i _⟩
/-- O37: a run that changes `CONFIG`. -/
theorem witness_FrameOfSetConfiguration :
    ∃ t, exec (.setConfiguration 0 0) (bench 0 answersOk []) = .next t ∧ t.config ≠ (bench 0 answersOk []).config :=
  ⟨_, rfl, by decide⟩
/-- O38: a receive that succeeds and one that fails. -/
theorem witness_FrameOfVendorWrite : (∃ t, exec (.vendorWrite 0 0 4) (bench 0 answersOk []) = .next t) ∧
    ∃ t, exec (.vendorWrite 0 0 4) (bench 0 answersFail []) = .next t := ⟨⟨_, rfl⟩, ⟨_, rfl⟩⟩
/-- O39 -/
theorem witness_ResponsesNeverExceedTheRequestedLength : ∃ t, exec (.getStatusIf 0 0 1) (bench 0 answersOk []) = .next t ∧
    t.outcome = some (.respond [0x00]) := ⟨_, rfl, by decide⟩
/-- O40, O41: a request that is answered and one that is rejected. -/
theorem witness_OutcomesAndCalls : (∃ t, exec (.vendorRead 0 0 2) (bench 1 answersOk []) = .next t ∧
      t.outcome = some (.respond [0xAA, 0xAA])) ∧
    ∃ t, exec (.vendorRead 0 0 2) (bench 1 answersFail []) = .next t ∧ t.outcome = some (.reject .transport) :=
  ⟨⟨_, rfl, by decide⟩, ⟨_, rfl, by decide⟩⟩
/-- O42: a precise reject, and a transport reject of each request that has written something. -/
theorem witness_RejectsArePreciseButForTransport :
    (∃ t, exec (.getDescriptorOther 6 0 0 0) (bench 1 answersOk []) = .next t ∧
      t.outcome = some (.reject .lookupMiss)) ∧
    ∀ i ∈ [Instr.getConfiguration 0 0 1, .getStatusDev 0 0 2, .getStatusIf 0 0 2, .getStatusEp 0 0 2,
      .setConfiguration 0 0, .vendorWrite 0 0 4, .vendorRead 0 0 4],
      ∃ t, exec i (bench 0 answersFail []) = .next t ∧ t.outcome = some (.reject .transport) := by
  refine ⟨⟨_, rfl, by decide⟩, fun i hi => ⟨_, exec_eq_effect i _, ?_⟩⟩
  simp only [List.mem_cons, List.not_mem_nil, or_false] at hi
  rcases hi with rfl | rfl | rfl | rfl | rfl | rfl | rfl <;> rfl
/-- O44: SET_CONFIGURATION and a request that does not touch `CONFIG`. -/
theorem witness_ConfigGatesNoRequest : ∀ i ∈ [Instr.setConfiguration 0 0, .vendorRead 0 0 4],
    (∀ v ix l, i ≠ .getConfiguration v ix l) ∧ ∃ t, exec i (bench 0 answersOk []) = .next t := by
  intro i hi
  refine ⟨?_, _, exec_eq_effect i _⟩
  simp only [List.mem_cons, List.not_mem_nil, or_false] at hi
  rcases hi with rfl | rfl <;> simp
/-- O45: a state with the invariant and a step from it. -/
theorem witness_EveryStepKeepsTheInvariant :
    ∃ t, (bench 0 answersOk [⟨.setup 0x00010900 0, answersOk⟩]).Inv ∧
      step (bench 0 answersOk [⟨.setup 0x00010900 0, answersOk⟩]) = .next t ∧ t.config = 1 :=
  ⟨_, ⟨by decide, .inl rfl, by decide, by simp [bench], by simp [bench]⟩, rfl, by decide⟩
/-- O47, O49: a run of two steps from a configured state. -/
theorem witness_Runs : ∃ t, (bench 1 answersOk [⟨.bus .reset 0, answersOk⟩, ⟨.setup 0x00000900 0, answersOk⟩]).config = 1 ∧
    core.run 2 (bench 1 answersOk [⟨.bus .reset 0, answersOk⟩, ⟨.setup 0x00000900 0, answersOk⟩]) = .next t :=
  ⟨_, rfl, rfl⟩
/-- O54: a descriptor request, a run that writes the buffer and configures the device, and the request again. -/
theorem witness_GetDescriptorRepeatsOverAnyRun : ∃ t u v, (Instr.getDescriptorDevice 0 0 8).isGetDescriptor = true ∧
    exec (.getDescriptorDevice 0 0 8) (bench 0 answersOk [⟨.setup 0x00010900 0, answersOk⟩,
      ⟨.setup 0x0000FF41 0x00040000, answersSuper⟩]) = .next t ∧ core.run 2 t = .next u ∧ u.config = 1 ∧
    u.ep0buf.take 2 = [0xDE, 0xAD] ∧ answersOk.speed = (bench 0 answersOk []).answers.speed ∧
    answersOk.send = (bench 0 answersOk []).answers.send ∧
    exec (.getDescriptorDevice 0 0 8) { u with answers := answersOk } = .next v :=
  ⟨_, _, _, rfl, rfl, rfl, by decide, by decide, rfl, rfl, rfl⟩
/-- O50: a write, a bus reset and a zero-length write in between, a read. -/
theorem witness_VendorChannelEchoes :
    (bench 0 answersOk ([⟨.setup 0x0000FF41 0x00040000, answersOk⟩] ++ [⟨.bus .reset 0, answersFail⟩,
        ⟨.setup 0x0000FF41 0x00000000, answersFail⟩] ++ [⟨.setup 0x0000FFC1 0x00080000, answersOk⟩])).pending =
      ⟨.setup 0x0000FF41 0x00040000, answersOk⟩ :: ([⟨.bus .reset 0, answersFail⟩,
        ⟨.setup 0x0000FF41 0x00000000, answersFail⟩] ++ ⟨.setup 0x0000FFC1 0x00080000, answersOk⟩ :: []) ∧
    (0x0000FF41 : Word).extractLsb' 0 8 = 0x41 ∧ (0x0000FF41 : Word).extractLsb' 8 8 = Config.params.vendorReqData ∧
    answersOk.receive = .ok ∧
    [0xDE, 0xAD, 0xBE, 0xEF] = answersOk.received.take (min Config.params.ep0bufCap ((0x00040000 : Word).extractLsb' 16 16).toNat) ∧
    (∀ m ∈ [(⟨.bus .reset 0, answersFail⟩ : Input), ⟨.setup 0x0000FF41 0x00000000, answersFail⟩],
      m.event.sparesBuffer Config.params = true) ∧
    (0x0000FFC1 : Word).extractLsb' 0 8 = 0xC1 ∧ (0x0000FFC1 : Word).extractLsb' 8 8 = Config.params.vendorReqData ∧
    answersOk.send = .ok := by decide

end Sys2Proof.Tests
end

section
/-! `CONFIG` is written by SET_CONFIGURATION alone, and only to 1 (10_state.md R24): so no step, and no run, takes it
from 1 to another value (R25). -/

namespace Sys2Proof.Machine

/-- SET_CONFIGURATION commits on an acknowledge that succeeds and on no other (43_configuration.md R170, R173). -/
theorem setConfigurationEffect_config (s : State) :
    (setConfigurationEffect s).config = if s.answers.ack = .ok then 1 else s.config := by
  cases h : s.answers.ack <;> simp [setConfigurationEffect, h, rejectEffect]

@[simp] theorem statusEffect_config (before : List EnvCall) (stalled : Bool) (wLength : Half) (s : State) :
    (statusEffect before stalled wLength s).config = s.config :=
  sendEffect_config before _ _ s

@[simp] theorem vendorWriteEffect_config (wLength : Half) (s : State) :
    (vendorWriteEffect wLength s).config = s.config := by
  cases h : s.answers.receive <;> simp [vendorWriteEffect, h]

/-- Every request but SET_CONFIGURATION leaves `CONFIG` as it was (10_state.md R21, R24). -/
theorem effect_config_of_ne_setConfiguration (i : Instr) (s : State) (hi : ∀ ix l, i ≠ .setConfiguration ix l) :
    (effect i s).config = s.config := by
  cases hw : i.writesNothing with
  | true =>
    obtain ⟨-, hconfig, -⟩ := effect_of_writesNothing i s hw
    exact hconfig
  | false =>
    cases i with
    | getConfiguration v ix l => exact sendEffect_config [] _ _ s
    | getStatusDev v ix l => exact statusEffect_config [] false l s
    | getStatusIf v ix l => exact statusEffect_config [] false l s
    | getStatusEp v ix l => exact statusEffect_config _ s.answers.stalled l s
    | setConfiguration ix l => exact absurd rfl (hi ix l)
    | vendorWrite v ix l => exact vendorWriteEffect_config l s
    | _ => simp [Instr.writesNothing] at hw

/-- A request keeps `CONFIG` or sets it to 1. -/
theorem effect_config_eq_or_one (i : Instr) (s : State) :
    (effect i s).config = s.config ∨ (effect i s).config = 1 := by
  by_cases hi : ∃ ix l, i = .setConfiguration ix l
  · obtain ⟨ix, l, rfl⟩ := hi
    change (setConfigurationEffect s).config = _ ∨ (setConfigurationEffect s).config = 1
    rw [setConfigurationEffect_config]
    split
    · exact .inr rfl
    · exact .inl rfl
  · exact .inl (effect_config_of_ne_setConfiguration i s fun ix l h => hi ⟨ix, l, h⟩)

/-- A step keeps `CONFIG` or sets it to 1: the bus events do not touch it (45_bus_events.md R201, R202). -/
theorem step_config_eq_or_one {s t : State} (h : step s = .next t) : t.config = s.config ∨ t.config = 1 := by
  obtain ⟨-, rfl⟩ | ⟨input, rest, w0, w1, -, -, hexec⟩ | ⟨input, rest, aux, -, -, rfl⟩ |
    ⟨input, rest, aux, -, -, rfl⟩ := step_cases h
  · exact .inl rfl
  · rw [exec_eq_effect] at hexec
    obtain rfl := Host.Outcome.next.inj hexec
    exact effect_config_eq_or_one _ (s.takeInput input rest)
  · exact .inl rfl
  · exact .inl rfl

/-- What every step keeps, every run keeps. -/
theorem run_keeps {P : State → Prop} (hstep : ∀ s t, P s → step s = .next t → P t) (k : Nat) {s t : State}
    (hs : P s) (h : core.run k s = .next t) : P t := by
  induction k generalizing s with
  | zero => exact run_zero_eq h ▸ hs
  | succ k ih =>
    obtain ⟨u, hu, -⟩ := step_next s
    rw [run_succ k hu] at h
    exact ih (hstep s u hs hu) h

/-- Settles O47: a step from a configured state keeps `CONFIG` or sets it to 1, so "`CONFIG` is 1" is kept by every
step and hence by every run. -/
theorem configStaysOneForever : Obligations.ConfigStaysOneForever := by
  intro k s t hs h
  refine run_keeps (P := fun s => s.config = 1) (fun u v hu hstep => ?_) k hs h
  obtain hkept | hone := step_config_eq_or_one hstep
  · exact hkept.trans hu
  · exact hone

end Sys2Proof.Machine
end

section
/-! Determinism of the requests that write nothing (20_memory.md R61): such a request changes only what an observer
sees, and no request reads that, so its immediate repetition meets the same values and ends the same way. -/

namespace Sys2Proof.Machine

/-- No request reads the trace or the last outcome: they belong to the observer (10_state.md R46, R47). -/
theorem effect_with_trace_outcome (i : Instr) (s : State) (trace : List EnvCall) (outcome : Option SetupOutcome) :
    effect i { s with trace := trace, outcome := outcome } = effect i s := by
  cases i <;> rfl

/-- A request that writes nothing leaves the whole state but the trace and the outcome (10_state.md R21). -/
theorem effect_apply_of_writesNothing (i : Instr) (s : State) (h : i.writesNothing = true) :
    (effect i s).apply s =
      { s with trace := s.trace ++ (effect i s).calls, outcome := some (effect i s).result } := by
  obtain ⟨hbuf, hconfig, hrxlen⟩ := effect_of_writesNothing i s h
  simp [Effect.apply, hbuf, hconfig, hrxlen]

/-- After a request that writes nothing, every request has the effect it had before. -/
theorem effect_after_writesNothing (i j : Instr) (s : State) (h : i.writesNothing = true) :
    effect j ((effect i s).apply s) = effect j s := by
  rw [effect_apply_of_writesNothing i s h]
  exact effect_with_trace_outcome j s _ _

/-- Settles O43: the repetition has the effect of the first service, so the same result and the registers kept. -/
theorem readsRepeatExactly : Obligations.ReadsRepeatExactly := by
  intro i s t hw ht
  rw [exec_eq_effect] at ht
  obtain rfl := Host.Outcome.next.inj ht
  refine ⟨_, exec_eq_effect i _, ?_⟩
  obtain ⟨hbuf, hconfig, hrxlen⟩ := effect_of_writesNothing i s hw
  simp [effect_after_writesNothing i i s hw, hbuf, hconfig, hrxlen]

end Sys2Proof.Machine
end

section
/-! The byte order of the setup packet (20_memory.md R51, R54): a word is the weighted sum of its four wire bytes, and
each of its halves is that of two of them. -/

namespace Sys2Proof

/-- The word of four wire bytes as a number: the earlier byte is the lower one. -/
theorem wordOfBytes_toNat (b0 b1 b2 b3 : Byte) :
    (wordOfBytes b0 b1 b2 b3).toNat = b0.toNat + 256 * b1.toNat + 65536 * b2.toNat + 16777216 * b3.toNat := by
  have := b0.isLt
  have := b1.isLt
  have := b2.isLt
  have := b3.isLt
  simp only [wordOfBytes, BitVec.toNat_ofNat]
  omega

/-- The low half of a word is its first two wire bytes. -/
theorem wordOfBytes_lowHalf_toNat (b0 b1 b2 b3 : Byte) :
    ((wordOfBytes b0 b1 b2 b3).extractLsb' 0 16).toNat = b0.toNat + 256 * b1.toNat := by
  have := b0.isLt
  have := b1.isLt
  rw [extractLsb'_toNat, wordOfBytes_toNat]
  omega

/-- The high half of a word is its last two wire bytes. -/
theorem wordOfBytes_highHalf_toNat (b0 b1 b2 b3 : Byte) :
    ((wordOfBytes b0 b1 b2 b3).extractLsb' 16 16).toNat = b2.toNat + 256 * b3.toNat := by
  have := b0.isLt
  have := b1.isLt
  have := b2.isLt
  have := b3.isLt
  rw [extractLsb'_toNat, wordOfBytes_toNat]
  omega

/-- Settles O4: the decoder reads the two words of the wire bytes, and its 16-bit fields are halves of those words. -/
theorem wireBytesAreLittleEndian : Obligations.WireBytesAreLittleEndian := by
  refine ⟨fun p b0 b1 b2 b3 b4 b5 b6 b7 rest => ?_, fun w0 w1 => ?_⟩
  · exact ⟨wordOfBytes b0 b1 b2 b3, wordOfBytes b4 b5 b6 b7, rfl,
      wordOfBytes_toNat b0 b1 b2 b3, wordOfBytes_toNat b4 b5 b6 b7,
      wordOfBytes_highHalf_toNat b0 b1 b2 b3, wordOfBytes_lowHalf_toNat b4 b5 b6 b7,
      wordOfBytes_highHalf_toNat b4 b5 b6 b7⟩
  · exact ⟨rfl, rfl, rfl, bmRequestType_decodeSetup w0 w1, rfl⟩

end Sys2Proof
end

section
/-! The fields of the decoder as arithmetic (40_decoder.md R110): a field is the quotient of the word by the weight of
its lowest bit, cut at its width; the fields that reach the top of the word need no cut. -/

namespace Sys2Proof

/-- The high half of a word is the quotient alone: nothing stands above it to be cut off. -/
theorem highHalf_toNat (w : Word) : (w.extractLsb' 16 16).toNat = w.toNat / 65536 := by
  have := w.isLt
  rw [extractLsb'_toNat]
  omega

/-- The low `len` bits of a word are its remainder: they need no quotient. -/
theorem lowBits_toNat (w : Word) (len : Nat) : (w.extractLsb' 0 len).toNat = w.toNat % 2 ^ len := by
  rw [extractLsb'_toNat, pow_zero, Nat.div_one]

/-- Settles O2: every field is a bit range of its word, whose number the range's place gives; the worked example is
evaluated. -/
theorem decoderExtractsEveryField : Obligations.DecoderExtractsEveryField := by
  refine ⟨fun w0 w1 => ?_, by decide⟩
  exact ⟨extractLsb'_toNat w0 7 1, extractLsb'_toNat w0 5 2, lowBits_toNat w0 5, extractLsb'_toNat w0 8 8,
    highHalf_toNat w0, lowBits_toNat w1 16, highHalf_toNat w1⟩

end Sys2Proof
end

section
/-! The requests refused by name (42_dispatcher.md R153, R154, R155). They share the first byte 0x00, which leaves only
the host-to-device rows of the standard device requests to choose from; and each is a reject that leaves the registers
alone. -/

namespace Sys2Proof

/-- `MATCH` of a packet whose first byte is 0x00: the request code alone selects the row, but for SET_CONFIGURATION's
guard (30_encoding.md R86). -/
theorem decodeWords_of_standardDeviceOut (p : Params) {w0 : Word} (w1 : Word) (h : w0.extractLsb' 0 8 = 0x00) :
    decodeWords p w0 w1 =
      if w0.extractLsb' 8 8 = p.rqSetFeature then
        .setFeature (w0.extractLsb' 16 16) (w1.extractLsb' 0 16) (w1.extractLsb' 16 16)
      else if w0.extractLsb' 8 8 = p.rqSetSel then
        .setSel (w0.extractLsb' 16 16) (w1.extractLsb' 0 16) (w1.extractLsb' 16 16)
      else if w0.extractLsb' 8 8 = p.rqSetIsocDelay then
        .setIsocDelay (w0.extractLsb' 16 16) (w1.extractLsb' 0 16) (w1.extractLsb' 16 16)
      else if w0.extractLsb' 8 8 = p.rqSetConfiguration ∧ w0.extractLsb' 16 16 = p.configValid then
        .setConfiguration (w1.extractLsb' 0 16) (w1.extractLsb' 16 16)
      else .rejectDefault 0x00 (w0.extractLsb' 8 8) (w0.extractLsb' 16 16) (w1.extractLsb' 0 16)
        (w1.extractLsb' 16 16) := by
  have hbm : (decodeSetup w0 w1).bmRequestType = 0x00 := (bmRequestType_decodeSetup w0 w1).trans h
  rw [decodeWords, matchRequest_eq p _ (decodeSetup_key w0 w1), hbm]
  simp [decodeSetup]

end Sys2Proof

namespace Sys2Proof.Machine

/-- A reject with no call before it changes nothing but what an observer sees (10_state.md R21). -/
theorem rejectEffect_apply (cause : RejectCause) (s : State) :
    (rejectEffect [] cause s).apply s =
      { s with trace := s.trace ++ [.reject], outcome := some (.reject cause) } := rfl

/-- Settles O27: with first byte 0x00 the request code selects the row, the three codes differ, and the effect of each
row is the reject alone, whatever the operands. -/
theorem refusedRequestsReject : Obligations.RefusedRequestsReject := by
  refine ⟨fun p w0 w1 => ?_, fun s wValue wIndex wLength i hi => ?_⟩
  · obtain ⟨-, -, -, hFeatureSel, hFeatureDelay, -, hSelDelay, -⟩ := p.requestCodes_distinct
    refine ⟨fun hbm hrq => ?_, fun hbm hrq => ?_, fun hbm hrq => ?_⟩ <;>
      rw [decodeWords_of_standardDeviceOut p w1 hbm, hrq]
    · rw [if_pos rfl]
    · rw [if_neg hFeatureSel.symm, if_pos rfl]
    · rw [if_neg hFeatureDelay.symm, if_neg hSelDelay.symm, if_pos rfl]
  · have heffect : effect i s = rejectEffect [] .unsupported s := by
      simp only [List.mem_cons, List.not_mem_nil, or_false] at hi
      obtain rfl | rfl | rfl := hi <;> rfl
    rw [exec_eq_effect, heffect, rejectEffect_apply]

end Sys2Proof.Machine
end

section
/-! The bus events (45_bus_events.md R200): a step that meets one is the handler's answer in the state that has taken
the event. -/

namespace Sys2Proof.Machine

/-- When a bus event is next, a step takes it off the list and hands it to the bus event handler. -/
theorem step_of_pending_bus {s : State} {kind : BusKind} {aux : Nat} {a : Answers} {rest : List Input}
    (hp : s.pending = ⟨.bus kind aux, a⟩ :: rest) :
    step s = handleBusEvent kind aux (s.takeInput ⟨.bus kind aux, a⟩ rest) := by
  rw [step, hp]

/-- The handler answers a reset with `busReset`, whatever the auxiliary data (R200, R201). -/
theorem handleBusEvent_reset (aux : Nat) (s : State) : handleBusEvent .reset aux s = .next (busReset s) := rfl

/-- The handler answers every other kind with `busOther`, whatever the auxiliary data (R200, R202). -/
theorem handleBusEvent_other (aux : Nat) (s : State) : handleBusEvent .other aux s = .next (busOther s) := rfl

/-- Settles O11: the step is `busReset` of the state that has taken the event, which records the one call. -/
theorem busResetOnlyNotifiesStop : Obligations.BusResetOnlyNotifiesStop := by
  intro s aux a rest hp
  rw [step_of_pending_bus hp, handleBusEvent_reset, busReset_eq, State.takeInput]

/-- Settles O12: the step is `busOther` of the state that has taken the event, which records no call. -/
theorem otherBusEventsDoNothing : Obligations.OtherBusEventsDoNothing := by
  intro s aux a rest hp
  rw [step_of_pending_bus hp, handleBusEvent_other, busOther_eq, State.takeInput]

end Sys2Proof.Machine
end

section
/-! The request map read in both directions (30_encoding.md R86, R98). `ofFields` is the match on a packet's fields: it
is what the decoder computes of two words, and what it computes of encoded fields. A field tuple is either listed, and
then by one of thirteen rows, or it is a REJECT_DEFAULT; each row gives a well-formed instruction whose encoding packs
the tuple again. -/

namespace Sys2Proof

/-- The request of five packet fields, its first byte split (R82). -/
def requestOf (bm rq : Byte) (v ix l : Half) : SetupRequest :=
  ⟨bm.extractLsb' 7 1, bm.extractLsb' 5 2, bm.extractLsb' 0 5, rq, v, ix, l⟩

/-- `MATCH` of five packet fields. -/
def ofFields (p : Params) (bm rq : Byte) (v ix l : Half) : Instr := matchRequest p (requestOf bm rq v ix l)

variable (p : Params) (bm rq : Byte) (v ix l : Half)

/-- What the decoder makes of encoded fields. -/
theorem decodeWords_encodeFields :
    decodeWords p (encodeFields bm rq v ix l).1 (encodeFields bm rq v ix l).2 = ofFields p bm rq v ix l := by
  rw [decodeWords, decodeSetup_encodeFields, ofFields, requestOf]

/-- What the decoder makes of two words. -/
theorem decodeWords_eq_ofFields (w0 w1 : Word) : decodeWords p w0 w1 =
    ofFields p (w0.extractLsb' 0 8) (w0.extractLsb' 8 8) (w0.extractLsb' 16 16) (w1.extractLsb' 0 16)
      (w1.extractLsb' 16 16) := by
  have hwords := encodeFields_decodeSetup w0 w1
  rw [bmRequestType_decodeSetup] at hwords
  rw [← decodeWords_encodeFields]
  exact (congrArg (fun ws : Word × Word => decodeWords p ws.1 ws.2) hwords).symm

/-- The decoder on a packet whose first two bytes are known. -/
theorem decodeWords_of_bytes {p : Params} {bm rq : Byte} {w0 : Word} (w1 : Word) (hbm : w0.extractLsb' 0 8 = bm)
    (hrq : w0.extractLsb' 8 8 = rq) : decodeWords p w0 w1 =
      ofFields p bm rq (w0.extractLsb' 16 16) (w1.extractLsb' 0 16) (w1.extractLsb' 16 16) := by
  rw [decodeWords_eq_ofFields, hbm, hrq]

/-- The first byte is put together again (R98). -/
@[simp] theorem requestOf_bmRequestType : (requestOf bm rq v ix l).bmRequestType = bm := by
  have := bm.isLt
  apply BitVec.eq_of_toNat_eq
  simp only [requestOf, SetupRequest.bmRequestType, BitVec.toNat_ofNat, extractLsb'_toNat]
  omega

@[simp] theorem requestOf_bRequest : (requestOf bm rq v ix l).bRequest = rq := rfl
@[simp] theorem requestOf_wValue : (requestOf bm rq v ix l).wValue = v := rfl
@[simp] theorem requestOf_wIndex : (requestOf bm rq v ix l).wIndex = ix := rfl
@[simp] theorem requestOf_wLength : (requestOf bm rq v ix l).wLength = l := rfl

/-- Its key is that of its first two bytes (R88). -/
theorem requestOf_key : (requestOf bm rq v ix l).key =
    keyOf (requestOf bm rq v ix l).bmRequestType (requestOf bm rq v ix l).bRequest := by
  rw [requestOf_bmRequestType]
  rfl

/-- `listed` as the thirteen rows it lists (R86). -/
theorem listed_iff : listed p bm rq v ix = true ↔
    (bm = 0x80 ∧ rq = p.rqGetDescriptor) ∨ (bm = 0x80 ∧ rq = p.rqGetConfiguration) ∨
    (bm = 0x80 ∧ rq = p.rqGetStatus) ∨ (bm = 0x81 ∧ rq = p.rqGetStatus) ∨ (bm = 0x82 ∧ rq = p.rqGetStatus) ∨
    (bm = 0x00 ∧ rq = p.rqSetFeature) ∨ (bm = 0x00 ∧ rq = p.rqSetSel) ∨ (bm = 0x00 ∧ rq = p.rqSetIsocDelay) ∨
    (bm = 0x00 ∧ rq = p.rqSetConfiguration ∧ v = p.configValid) ∨
    (bm = 0xC0 ∧ rq = p.msVendorCode ∧ ix = p.msCompatIdIndex) ∨
    (bm = 0xC1 ∧ rq = p.msVendorCode ∧ ix = p.msExtPropIndex) ∨
    (bm = 0xC1 ∧ rq = p.vendorReqData) ∨ (bm = 0x41 ∧ rq = p.vendorReqData) := by
  simp only [listed, Bool.or_eq_true, Bool.and_eq_true, beq_iff_eq, or_assoc, and_assoc]

/-! ### The rows -/

theorem ofFields_getDescriptor : ofFields p 0x80 p.rqGetDescriptor v ix l =
    getDescriptorRow p (requestOf 0x80 p.rqGetDescriptor v ix l) := by
  simp [ofFields, matchRequest_eq p _ (requestOf_key _ _ _ _ _)]

theorem ofFields_getConfiguration : ofFields p 0x80 p.rqGetConfiguration v ix l = .getConfiguration v ix l := by
  obtain ⟨hDesc, -⟩ := p.requestCodes_distinct
  simp [ofFields, matchRequest_eq p _ (requestOf_key _ _ _ _ _), hDesc.symm]

theorem ofFields_getStatusDev : ofFields p 0x80 p.rqGetStatus v ix l = .getStatusDev v ix l := by
  obtain ⟨-, hDesc, hConf, -⟩ := p.requestCodes_distinct
  simp [ofFields, matchRequest_eq p _ (requestOf_key _ _ _ _ _), hDesc.symm, hConf.symm]

theorem ofFields_getStatusIf : ofFields p 0x81 p.rqGetStatus v ix l = .getStatusIf v ix l := by
  simp [ofFields, matchRequest_eq p _ (requestOf_key _ _ _ _ _)]

theorem ofFields_getStatusEp : ofFields p 0x82 p.rqGetStatus v ix l = .getStatusEp v ix l := by
  simp [ofFields, matchRequest_eq p _ (requestOf_key _ _ _ _ _)]

theorem ofFields_setFeature : ofFields p 0x00 p.rqSetFeature v ix l = .setFeature v ix l := by
  simp [ofFields, matchRequest_eq p _ (requestOf_key _ _ _ _ _)]

theorem ofFields_setSel : ofFields p 0x00 p.rqSetSel v ix l = .setSel v ix l := by
  obtain ⟨-, -, -, hFeature, -⟩ := p.requestCodes_distinct
  simp [ofFields, matchRequest_eq p _ (requestOf_key _ _ _ _ _), hFeature.symm]

theorem ofFields_setIsocDelay : ofFields p 0x00 p.rqSetIsocDelay v ix l = .setIsocDelay v ix l := by
  obtain ⟨-, -, -, -, hFeature, -, hSel, -⟩ := p.requestCodes_distinct
  simp [ofFields, matchRequest_eq p _ (requestOf_key _ _ _ _ _), hFeature.symm, hSel.symm]

theorem ofFields_setConfiguration :
    ofFields p 0x00 p.rqSetConfiguration p.configValid ix l = .setConfiguration ix l := by
  obtain ⟨-, -, -, -, -, hFeature, -, hSel, hDelay, -⟩ := p.requestCodes_distinct
  simp [ofFields, matchRequest_eq p _ (requestOf_key _ _ _ _ _), hFeature.symm, hSel.symm, hDelay.symm]

theorem ofFields_msCompatId : ofFields p 0xC0 p.msVendorCode v p.msCompatIdIndex l = .msCompatId v l := by
  simp [ofFields, matchRequest_eq p _ (requestOf_key _ _ _ _ _)]

theorem ofFields_msExtProps : ofFields p 0xC1 p.msVendorCode v p.msExtPropIndex l = .msExtProps v l := by
  simp [ofFields, matchRequest_eq p _ (requestOf_key _ _ _ _ _)]

theorem ofFields_vendorRead : ofFields p 0xC1 p.vendorReqData v ix l = .vendorRead v ix l := by
  obtain ⟨-, -, -, -, -, -, -, -, -, hVendor⟩ := p.requestCodes_distinct
  simp [ofFields, matchRequest_eq p _ (requestOf_key _ _ _ _ _), hVendor.symm]

theorem ofFields_vendorWrite : ofFields p 0x41 p.vendorReqData v ix l = .vendorWrite v ix l := by
  simp [ofFields, matchRequest_eq p _ (requestOf_key _ _ _ _ _)]

/-- Fields that no row lists are a REJECT_DEFAULT that keeps them all. -/
theorem ofFields_of_not_listed (h : ¬listed p bm rq v ix = true) :
    ofFields p bm rq v ix l = .rejectDefault bm rq v ix l := by
  rw [listed_iff] at h
  simp only [not_or] at h
  simp only [ofFields, matchRequest_eq p _ (requestOf_key _ _ _ _ _), requestOf_bmRequestType, requestOf_bRequest,
    requestOf_wValue, requestOf_wIndex, requestOf_wLength, and_assoc, h, if_false]

/-! ### The class codes -/

/-- The GET_DESCRIPTOR row of a class code that has no row of its own. -/
theorem getDescriptorRow_of_unknown (r : SetupRequest) (h : knownClass p (classOf r.wValue) = false) :
    getDescriptorRow p r = .getDescriptorOther (classOf r.wValue) (subIndexOf r.wValue) r.wIndex r.wLength := by
  simp only [knownClass, Bool.or_eq_false_iff, beq_eq_false_iff_ne] at h
  obtain ⟨⟨⟨hDevice, hConfiguration⟩, hString⟩, hBos⟩ := h
  simp [getDescriptorRow, hDevice, hConfiguration, hString, hBos]

/-- Every GET_DESCRIPTOR row is well formed and packs its class, sub-index, index and length (R86, R96). -/
theorem getDescriptorRow_wf_encode (r : SetupRequest) : (getDescriptorRow p r).wf p = true ∧
    encode p (getDescriptorRow p r) = encodeFields 0x80 p.rqGetDescriptor r.wValue r.wIndex r.wLength := by
  have hvalue := valueOf_classOf_subIndexOf r.wValue
  simp only [getDescriptorRow]
  split_ifs with hDevice hConfiguration hString hBos
  · exact ⟨rfl, by rw [encode, ← hDevice, hvalue]⟩
  · exact ⟨rfl, by rw [encode, ← hConfiguration, hvalue]⟩
  · exact ⟨rfl, by rw [encode, ← hString, hvalue]⟩
  · exact ⟨rfl, by rw [encode, ← hBos, hvalue]⟩
  · exact ⟨by simp [Instr.wf, knownClass, *], by rw [encode, hvalue]⟩

/-! ### Both round trips -/

/-- Every field tuple matches a well-formed instruction whose encoding packs the tuple: by the row that lists it, or as
a REJECT_DEFAULT (R86, R92). -/
theorem ofFields_wf_encode : (ofFields p bm rq v ix l).wf p = true ∧
    encode p (ofFields p bm rq v ix l) = encodeFields bm rq v ix l := by
  by_cases h : listed p bm rq v ix = true
  · obtain ⟨rfl, rfl⟩ | ⟨rfl, rfl⟩ | ⟨rfl, rfl⟩ | ⟨rfl, rfl⟩ | ⟨rfl, rfl⟩ | ⟨rfl, rfl⟩ | ⟨rfl, rfl⟩ | ⟨rfl, rfl⟩ |
      ⟨rfl, rfl, rfl⟩ | ⟨rfl, rfl, rfl⟩ | ⟨rfl, rfl, rfl⟩ | ⟨rfl, rfl⟩ | ⟨rfl, rfl⟩ := (listed_iff p bm rq v ix).1 h
    · rw [ofFields_getDescriptor]; exact getDescriptorRow_wf_encode p _
    · rw [ofFields_getConfiguration]; exact ⟨rfl, rfl⟩
    · rw [ofFields_getStatusDev]; exact ⟨rfl, rfl⟩
    · rw [ofFields_getStatusIf]; exact ⟨rfl, rfl⟩
    · rw [ofFields_getStatusEp]; exact ⟨rfl, rfl⟩
    · rw [ofFields_setFeature]; exact ⟨rfl, rfl⟩
    · rw [ofFields_setSel]; exact ⟨rfl, rfl⟩
    · rw [ofFields_setIsocDelay]; exact ⟨rfl, rfl⟩
    · rw [ofFields_setConfiguration]; exact ⟨rfl, rfl⟩
    · rw [ofFields_msCompatId]; exact ⟨rfl, rfl⟩
    · rw [ofFields_msExtProps]; exact ⟨rfl, rfl⟩
    · rw [ofFields_vendorRead]; exact ⟨rfl, rfl⟩
    · rw [ofFields_vendorWrite]; exact ⟨rfl, rfl⟩
  · rw [ofFields_of_not_listed p bm rq v ix l h]
    exact ⟨by simpa [Instr.wf] using h, rfl⟩

/-- A packed class code and sub-index select the GET_DESCRIPTOR row of the class code (R96). -/
theorem ofFields_valueOf (cls idx : Byte) : ofFields p 0x80 p.rqGetDescriptor (valueOf cls idx) ix l =
    if cls = p.dtDevice then .getDescriptorDevice idx ix l
    else if cls = p.dtConfiguration then .getDescriptorConfiguration idx ix l
    else if cls = p.dtString then .getDescriptorString idx ix l
    else if cls = p.dtBos then .getDescriptorBos idx ix l
    else .getDescriptorOther cls idx ix l := by
  rw [ofFields_getDescriptor]
  simp [getDescriptorRow, classOf_valueOf, subIndexOf_valueOf]

/-- The words of a well-formed instruction decode to it (R81, R86, R98). -/
theorem decodeWords_encode (i : Instr) (h : i.wf p = true) : decodeWords p (encode p i).1 (encode p i).2 = i := by
  obtain ⟨hDevConf, hDevStr, hDevBos, hConfStr, hConfBos, hStrBos⟩ := p.classCodes_distinct
  cases i <;> simp only [encode, decodeWords_encodeFields]
  case getDescriptorDevice => rw [ofFields_valueOf, if_pos rfl]
  case getDescriptorConfiguration => rw [ofFields_valueOf, if_neg hDevConf.symm, if_pos rfl]
  case getDescriptorString => rw [ofFields_valueOf, if_neg hDevStr.symm, if_neg hConfStr.symm, if_pos rfl]
  case getDescriptorBos =>
    rw [ofFields_valueOf, if_neg hDevBos.symm, if_neg hConfBos.symm, if_neg hStrBos.symm, if_pos rfl]
  case getDescriptorOther cls idx wIndex wLength =>
    have hunknown : knownClass p cls = false := by simpa [Instr.wf] using h
    rw [ofFields_getDescriptor, getDescriptorRow_of_unknown p _ (by simpa [classOf_valueOf] using hunknown)]
    simp [classOf_valueOf, subIndexOf_valueOf]
  case getConfiguration => exact ofFields_getConfiguration p _ _ _
  case getStatusDev => exact ofFields_getStatusDev p _ _ _
  case getStatusIf => exact ofFields_getStatusIf p _ _ _
  case getStatusEp => exact ofFields_getStatusEp p _ _ _
  case setFeature => exact ofFields_setFeature p _ _ _
  case setSel => exact ofFields_setSel p _ _ _
  case setIsocDelay => exact ofFields_setIsocDelay p _ _ _
  case setConfiguration => exact ofFields_setConfiguration p _ _
  case msCompatId => exact ofFields_msCompatId p _ _
  case msExtProps => exact ofFields_msExtProps p _ _
  case vendorRead => exact ofFields_vendorRead p _ _ _
  case vendorWrite => exact ofFields_vendorWrite p _ _ _
  case rejectDefault bm rq wValue wIndex wLength =>
    exact ofFields_of_not_listed p bm rq wValue wIndex wLength (by simpa [Instr.wf] using h)

/-- Two words decode to a well-formed instruction whose words they are (R81, R92). -/
theorem decodeWords_wf_encode (w0 w1 : Word) :
    (decodeWords p w0 w1).wf p = true ∧ encode p (decodeWords p w0 w1) = (w0, w1) := by
  have hwords := encodeFields_decodeSetup w0 w1
  rw [bmRequestType_decodeSetup] at hwords
  rw [decodeWords_eq_ofFields, ← hwords]
  exact ofFields_wf_encode p _ _ _ _ _

end Sys2Proof

namespace Sys2Proof

/-- Settles O5: the bytes decode to what the words do, and the words of a well-formed instruction decode to it. -/
theorem decodeOfEncodeIsIdentity : Obligations.DecodeOfEncodeIsIdentity := by
  intro p i rest h
  rw [decode_packetBytes, decodeWords_encode p i h]

/-- Settles O6: the row that lists the fields, or REJECT_DEFAULT, is well formed and packs the fields again. -/
theorem encodeOfDecodeIsIdentity : Obligations.EncodeOfDecodeIsIdentity :=
  decodeWords_wf_encode

end Sys2Proof
end

section
/-! Once, how a request can end. There are seven ways: a reject before anything is written, a reply that is sent or
whose send fails, the acknowledge of SET_CONFIGURATION that succeeds or fails, and the receive of VENDOR_WRITE that
succeeds or fails. What holds of every request (bounds, pairing, call lists, frames) is then read off these seven. -/

namespace Sys2Proof.Machine

/-- The two calls that only ask the environment (10_state.md R38, R39). -/
def EnvCall.isQuery : EnvCall → Bool
  | .queryLinkSpeed _ => true
  | .queryEndpointStallState _ _ => true
  | _ => false

/-- A buffer that a request may leave: as many registers as before, and those beyond the bytes it stages kept (R21). -/
def KeepsTail (i : Instr) (s : State) (buf : List Byte) : Prop :=
  buf.length = s.ep0buf.length ∧ ∀ k, i.stagedBytes s.params ≤ k → buf[k]? = s.ep0buf[k]?

/-- What a request that replies with `bytes` has done before it sends them, and that its calls are rows of the table
(42_dispatcher.md R158). -/
structure Replies (i : Instr) (s : State) (before : List EnvCall) (buf bytes : List Byte) : Prop where
  queries : ∀ c ∈ before, c.isQuery = true
  length_le : bytes.length ≤ i.maxLength.toNat
  tail : KeepsTail i s buf
  success : before.map EnvCall.kind ++ [CallKind.sendResponse] ∈ i.callPaths.success
  failure : before.map EnvCall.kind ++ [CallKind.sendResponse, CallKind.reject] ∈ i.callPaths.failure

/-- The seven ways a request can end. -/
inductive Ending (i : Instr) (s : State) : Effect → Prop
  | rejected (before : List EnvCall) (cause : RejectCause) (hcause : cause ≠ .transport)
      (hqueries : ∀ c ∈ before, c.isQuery = true)
      (hpath : before.map EnvCall.kind ++ [CallKind.reject] ∈ i.callPaths.failure) :
      Ending i s ⟨s.ep0buf, s.config, s.rxlen, before ++ [.reject], .reject cause⟩
  | sent (before : List EnvCall) (buf bytes : List Byte) (hreply : Replies i s before buf bytes) :
      Ending i s ⟨buf, s.config, s.rxlen, before ++ [.sendResponse bytes .ok], .respond bytes⟩
  | sendFailed (before : List EnvCall) (buf bytes : List Byte) (hreply : Replies i s before buf bytes) :
      Ending i s ⟨buf, s.config, s.rxlen, before ++ [.sendResponse bytes .fail, .reject], .reject .transport⟩
  | configured (wIndex wLength : Half) (hi : i = .setConfiguration wIndex wLength) (hack : s.answers.ack = .ok) :
      Ending i s ⟨s.ep0buf, 1, s.rxlen, [.disableLowPower, .notifyApplicationStart, .acknowledge .ok], .acknowledge⟩
  | ackFailed (wIndex wLength : Half) (hi : i = .setConfiguration wIndex wLength) (hack : s.answers.ack = .fail) :
      Ending i s ⟨s.ep0buf, s.config, s.rxlen,
        [.disableLowPower, .notifyApplicationStart, .acknowledge .fail, .reject], .reject .transport⟩
  | received (wValue wIndex wLength : Half) (n : Nat) (data : List Byte) (hi : i = .vendorWrite wValue wIndex wLength)
      (hn : n = min s.params.ep0bufCap wLength.toNat) (hdata : data = s.answers.received.take n) :
      Ending i s ⟨memWrite s.ep0buf 0 data, s.config, data.length, [.receiveData n .ok data], .acknowledge⟩
  | receiveFailed (wValue wIndex wLength : Half) (n : Nat) (data : List Byte)
      (hi : i = .vendorWrite wValue wIndex wLength) (hn : n = min s.params.ep0bufCap wLength.toNat)
      (hdata : data = s.answers.received.take n) :
      Ending i s ⟨(spoilWindow n data s).ep0buf, s.config, (spoilWindow n data s).rxlen,
        [.receiveData n .fail data, .reject], .reject .transport⟩

variable {i : Instr} {s : State}

/-- The buffer as it was is one that any request may leave. -/
theorem KeepsTail.refl (i : Instr) (s : State) : KeepsTail i s s.ep0buf := ⟨rfl, fun _ _ => rfl⟩

/-- A buffer with new bytes at its start is one that a request may leave which stages as many. -/
theorem KeepsTail.memWrite (v : List Byte) (h : v.length ≤ i.stagedBytes s.params) :
    KeepsTail i s (memWrite s.ep0buf 0 v) :=
  ⟨memWrite_length _ _ _, fun k hk => memWrite_getElem?_of_le _ _ k (h.trans hk)⟩

/-- A reply ends sent, or in a failed send. -/
theorem Replies.ending {before : List EnvCall} {buf bytes : List Byte} (h : Replies i s before buf bytes) :
    Ending i s (sendEffect before buf bytes s) := by
  unfold sendEffect
  split
  · exact .sent before buf bytes h
  · exact .sendFailed before buf bytes h

/-- Serving a lookup's answer ends in a miss, sent, or in a failed send (R146, R181, R182). -/
theorem lookupEffect_ending {before : List EnvCall} (found : Option Slot)
    (hqueries : ∀ c ∈ before, c.isQuery = true)
    (hmiss : before.map EnvCall.kind ++ [CallKind.reject] ∈ i.callPaths.failure)
    (hsuccess : before.map EnvCall.kind ++ [CallKind.sendResponse] ∈ i.callPaths.success)
    (hfailure : before.map EnvCall.kind ++ [CallKind.sendResponse, CallKind.reject] ∈ i.callPaths.failure) :
    Ending i s (lookupEffect before found i.maxLength s) := by
  cases found with
  | none => exact .rejected before .lookupMiss (by decide) hqueries hmiss
  | some slot =>
    exact Replies.ending ⟨hqueries, trunc_length_le s.rom slot i.maxLength, .refl i s, hsuccess, hfailure⟩

/-- A request with the call lists of GET_DESCRIPTOR that serves a lookup after the speed query ends in one of its three
ways. -/
theorem descriptorEffect_ending (cls idx : Byte) (hpaths : i.callPaths = Instr.callPaths.descriptorPaths) :
    Ending i s (descriptorEffect cls idx i.maxLength s) :=
  lookupEffect_ending _ (by simp [EnvCall.isQuery]) (by simp [hpaths, Instr.callPaths.descriptorPaths, EnvCall.kind])
    (by simp [hpaths, Instr.callPaths.descriptorPaths, EnvCall.kind])
    (by simp [hpaths, Instr.callPaths.descriptorPaths, EnvCall.kind])

/-- A request that stages a status reply ends sent or in a failed send (R150 to R152). -/
theorem statusEffect_ending {before : List EnvCall} (stalled : Bool) (hqueries : ∀ c ∈ before, c.isQuery = true)
    (hstaged : i.stagedBytes s.params = 2)
    (hsuccess : before.map EnvCall.kind ++ [CallKind.sendResponse] ∈ i.callPaths.success)
    (hfailure : before.map EnvCall.kind ++ [CallKind.sendResponse, CallKind.reject] ∈ i.callPaths.failure) :
    Ending i s (statusEffect before stalled i.maxLength s) := by
  refine Replies.ending ⟨hqueries, ?_, ?_, hsuccess, hfailure⟩
  · simp only [List.length_take]
    omega
  · rw [← memWrite_two]
    exact .memWrite _ (by simp [hstaged])

/-- Every request ends in one of the seven ways. -/
theorem effect_ending (i : Instr) (s : State) : Ending i s (effect i s) := by
  cases i with
  | getDescriptorDevice idx wIndex wLength => exact descriptorEffect_ending s.params.dtDevice idx rfl
  | getDescriptorConfiguration idx wIndex wLength => exact descriptorEffect_ending s.params.dtConfiguration idx rfl
  | getDescriptorString idx wIndex wLength => exact descriptorEffect_ending s.params.dtString idx rfl
  | getDescriptorBos idx wIndex wLength => exact descriptorEffect_ending s.params.dtBos idx rfl
  | getDescriptorOther cls idx wIndex wLength => exact descriptorEffect_ending cls idx rfl
  | getConfiguration wValue wIndex wLength =>
    refine Replies.ending ⟨by simp, ?_, ?_, .head _, .head _⟩
    · simp only [List.length_take, Instr.maxLength]
      omega
    · rw [← memWrite_one]
      exact .memWrite _ (by simp [Instr.stagedBytes])
  | getStatusDev wValue wIndex wLength => exact statusEffect_ending false (by simp) rfl (.head _) (.head _)
  | getStatusIf wValue wIndex wLength => exact statusEffect_ending false (by simp) rfl (.head _) (.head _)
  | getStatusEp wValue wIndex wLength =>
    exact statusEffect_ending s.answers.stalled (by simp [EnvCall.isQuery]) rfl (.head _) (.head _)
  | setFeature wValue wIndex wLength => exact .rejected [] .unsupported (by decide) (by simp) (.head _)
  | setSel wValue wIndex wLength => exact .rejected [] .unsupported (by decide) (by simp) (.head _)
  | setIsocDelay wValue wIndex wLength => exact .rejected [] .unsupported (by decide) (by simp) (.head _)
  | setConfiguration wIndex wLength =>
    simp only [effect, setConfigurationEffect]
    split
    · exact .configured wIndex wLength rfl ‹_›
    · exact .ackFailed wIndex wLength rfl ‹_›
  | msCompatId wValue wLength =>
    exact lookupEffect_ending _ (by simp) (.head _) (.head _) (.tail _ (.head _))
  | msExtProps wValue wLength =>
    exact lookupEffect_ending _ (by simp) (.head _) (.head _) (.tail _ (.head _))
  | vendorRead wValue wIndex wLength =>
    refine Replies.ending ⟨by simp, ?_, .refl _ _, .head _, .head _⟩
    simp only [List.length_take, Instr.maxLength]
    omega
  | vendorWrite wValue wIndex wLength =>
    simp only [effect, vendorWriteEffect]
    split
    · exact .received wValue wIndex wLength _ _ rfl rfl rfl
    · exact .receiveFailed wValue wIndex wLength _ _ rfl rfl rfl
  | rejectDefault bm rq wValue wIndex wLength => exact .rejected [] .unmatched (by decide) (by simp) (.head _)

/-- A request that runs to `t` has applied its effect. -/
theorem eq_effect_apply {t : State} (h : exec i s = .next t) : t = (effect i s).apply s := by
  rw [exec_eq_effect] at h
  exact (Host.Outcome.next.inj h).symm

/-! ### What every ending keeps and shows -/

variable {e : Effect}

/-- A request changes no register of the buffer beyond those it stages (10_state.md R21). -/
theorem Ending.keepsTail (h : Ending i s e) : KeepsTail i s e.ep0buf := by
  cases h with
  | rejected => exact .refl i s
  | sent _ _ _ hreply => exact hreply.tail
  | sendFailed _ _ _ hreply => exact hreply.tail
  | configured => exact .refl i s
  | ackFailed => exact .refl i s
  | received _ _ wLength n data hi hn hdata =>
    subst hi hn hdata
    exact .memWrite _ (List.length_take_le _ _)
  | receiveFailed _ _ wLength n data hi hn hdata =>
    subst hi hn
    exact ⟨spoilWindow_length s _ _, fun k hk => spoilWindow_getElem? s _ _ k hk⟩

/-- A request keeps `RXLEN` in range (R26). -/
theorem Ending.rxlen_le (h : Ending i s e) (hs : s.rxlen ≤ s.params.ep0bufCap) : e.rxlen ≤ s.params.ep0bufCap := by
  cases h with
  | received _ _ wLength n data hi hn hdata =>
    subst hn hdata
    exact (List.length_take_le _ _).trans (Nat.min_le_left _ _)
  | receiveFailed => exact spoilWindow_rxlen_le s _ _
  | _ => exact hs

/-- A request that changes `CONFIG` acknowledges and notifies the start (R24, R170). -/
theorem Ending.calls_of_config_ne (h : Ending i s e) (hne : e.config ≠ s.config) :
    EnvCall.acknowledge .ok ∈ e.calls ∧ EnvCall.notifyApplicationStart ∈ e.calls := by
  cases h with
  | configured => simp
  | _ => exact absurd rfl hne

/-- The result is paired with the last call (R46, 60_exceptions.md R214). -/
theorem Ending.pairedWith (h : Ending i s e) : e.result.pairedWith e.calls.getLast? := by
  cases h with
  | received _ _ _ n data => exact .inr ⟨n, data, rfl⟩
  | configured => exact .inl rfl
  | _ => simp [SetupOutcome.pairedWith]

/-- A request makes at least one call: the one its result is paired with. -/
theorem Ending.calls_ne_nil (h : Ending i s e) : e.calls ≠ [] := by
  cases h <;> simp

/-- A query is no `reject`. -/
theorem count_reject_of_queries {before : List EnvCall} (h : ∀ c ∈ before, c.isQuery = true) :
    before.count .reject = 0 :=
  List.count_eq_zero.2 fun hmem => absurd (h _ hmem) (by decide)

/-- `reject` is called once in a request that ends in a reject, and in no other (60_exceptions.md R214). -/
theorem Ending.count_reject (h : Ending i s e) :
    e.calls.count .reject = if e.result.hostView = .stalled then 1 else 0 := by
  cases h with
  | rejected before _ _ hqueries => simp [count_reject_of_queries hqueries, SetupOutcome.hostView]
  | sent before _ _ hreply => simp [count_reject_of_queries hreply.queries, SetupOutcome.hostView]
  | sendFailed before _ _ hreply => simp [count_reject_of_queries hreply.queries, SetupOutcome.hostView]
  | _ => simp [SetupOutcome.hostView]

/-- A request that ends in no reject makes the calls of a success path of the table (42_dispatcher.md R158). -/
theorem Ending.success (h : Ending i s e) (hview : e.result.hostView ≠ .stalled) :
    e.calls.map EnvCall.kind ∈ i.callPaths.success := by
  cases h with
  | sent before _ _ hreply => simpa [EnvCall.kind] using hreply.success
  | configured _ _ hi => subst hi; exact .head _
  | received _ _ _ _ _ hi => subst hi; exact .head _
  | _ => exact absurd rfl hview

/-- A request that ends in a reject makes the calls of a failure path of the table (R158). -/
theorem Ending.failure (h : Ending i s e) (hview : e.result.hostView = .stalled) :
    e.calls.map EnvCall.kind ∈ i.callPaths.failure := by
  cases h with
  | rejected before _ _ _ hpath => simpa [EnvCall.kind] using hpath
  | sendFailed before _ _ hreply => simpa [EnvCall.kind] using hreply.failure
  | ackFailed _ _ hi => subst hi; exact .head _
  | receiveFailed _ _ _ _ _ hi => subst hi; exact .head _
  | _ => cases hview

/-- No response is longer than asked for (20_memory.md R60). -/
theorem Ending.response_length_le (h : Ending i s e) {bytes : List Byte} (hr : e.result = .respond bytes) :
    bytes.length ≤ i.maxLength.toNat := by
  cases h with
  | sent _ _ _ hreply =>
    obtain rfl := SetupOutcome.respond.inj hr
    exact hreply.length_le
  | _ => cases hr

/-- A query is inside every bound. -/
theorem EnvCall.bounded_of_isQuery (p : Params) {c : EnvCall} (h : c.isQuery = true) : c.bounded p := by
  cases c with
  | queryLinkSpeed => trivial
  | queryEndpointStallState => trivial
  | _ => cases h

/-- What was asked for has at most 65535 bytes (10_state.md R40). -/
theorem Replies.length_le_max {before : List EnvCall} {buf bytes : List Byte} (h : Replies i s before buf bytes) :
    bytes.length ≤ 65535 :=
  h.length_le.trans (Nat.le_of_lt_succ i.maxLength.isLt)

/-- Every call of a request stays inside the bounds of its interface (10_state.md R40, R45). -/
theorem Ending.calls_bounded (h : Ending i s e) : ∀ c ∈ e.calls, c.bounded s.params := by
  cases h with
  | rejected before _ _ hqueries =>
    have hbefore := fun c hc => EnvCall.bounded_of_isQuery s.params (hqueries c hc)
    simpa [or_imp, forall_and, EnvCall.bounded] using hbefore
  | sent before _ bytes hreply =>
    have hbefore := fun c hc => EnvCall.bounded_of_isQuery s.params (hreply.queries c hc)
    simpa [or_imp, forall_and, EnvCall.bounded, hreply.length_le_max] using hbefore
  | sendFailed before _ bytes hreply =>
    have hbefore := fun c hc => EnvCall.bounded_of_isQuery s.params (hreply.queries c hc)
    simpa [or_imp, forall_and, EnvCall.bounded, hreply.length_le_max] using hbefore
  | received _ _ _ n data _ hn hdata => simp [EnvCall.bounded, hn, hdata]
  | receiveFailed _ _ _ n data _ hn hdata => simp [EnvCall.bounded, hn, hdata]
  | _ => simp [EnvCall.bounded]

/-! ### The statements about every request -/

/-- Settles O39: the one ending that responds sends bytes cut at `L`. -/
theorem responsesNeverExceedTheRequestedLength : Obligations.ResponsesNeverExceedTheRequestedLength := by
  intro i s t bytes h hbytes
  obtain rfl := eq_effect_apply h
  exact (effect_ending i s).response_length_le (Option.some.inj hbytes)

/-- Settles O40: each ending's result is paired with its last call, and each makes the `reject` call with a reject
result only. -/
theorem outcomeIsPairedWithTheLastCall : Obligations.OutcomeIsPairedWithTheLastCall := by
  intro i s t h
  obtain rfl := eq_effect_apply h
  exact ⟨_, _, rfl, rfl, (effect_ending i s).pairedWith, (effect_ending i s).count_reject⟩

/-- Settles O41: each ending makes the calls of a row of the table. -/
theorem callsFollowTheTable : Obligations.CallsFollowTheTable := by
  intro i s t h
  obtain rfl := eq_effect_apply h
  exact ⟨_, _, rfl, rfl, (effect_ending i s).success, (effect_ending i s).failure⟩

end Sys2Proof.Machine
end

section
/-! The invariant (10_state.md sections 5 and 10): taking an input does not touch what it speaks of, the bus events only
extend the trace and drop the outcome, and every ending of a request keeps each of its five clauses. -/

namespace Sys2Proof.Machine

variable {s : State}

/-- Taking an input keeps the invariant: it writes the environment's part only. -/
theorem State.Inv.takeInput (h : s.Inv) (input : Input) (rest : List Input) : (s.takeInput input rest).Inv :=
  ⟨h.sized, h.configLegal, h.configuredAfterAck, h.outcomePaired, h.callsBounded⟩

/-- A request keeps the invariant. -/
theorem State.Inv.effect_apply (h : s.Inv) (i : Instr) : ((effect i s).apply s).Inv where
  sized := ⟨(effect_ending i s).keepsTail.1.trans h.sized.1, (effect_ending i s).rxlen_le h.sized.2⟩
  configLegal := by
    obtain hkept | hone := effect_config_eq_or_one i s
    · simpa [hkept] using h.configLegal
    · exact .inr hone
  configuredAfterAck := by
    intro hone
    by_cases hkept : (effect i s).config = s.config
    · obtain ⟨hack, hstart⟩ := h.configuredAfterAck (hkept.symm.trans hone)
      exact ⟨List.mem_append_left _ hack, List.mem_append_left _ hstart⟩
    · obtain ⟨hack, hstart⟩ := (effect_ending i s).calls_of_config_ne hkept
      exact ⟨List.mem_append_right _ hack, List.mem_append_right _ hstart⟩
  outcomePaired := by
    intro o ho
    obtain rfl := Option.some.inj ho
    rw [Effect.apply_trace, List.getLast?_append_of_ne_nil _ (effect_ending i s).calls_ne_nil]
    exact (effect_ending i s).pairedWith
  callsBounded := fun c hc =>
    (List.mem_append.1 hc).elim (h.callsBounded c) ((effect_ending i s).calls_bounded c)

/-- A bus reset keeps the invariant: it adds the stop notification and has no outcome (45_bus_events.md R201). -/
theorem State.Inv.busReset (h : s.Inv) : (busReset s).Inv where
  sized := h.sized
  configLegal := h.configLegal
  configuredAfterAck := fun hone => by
    obtain ⟨hack, hstart⟩ := h.configuredAfterAck hone
    exact ⟨List.mem_append_left _ hack, List.mem_append_left _ hstart⟩
  outcomePaired := fun o ho => by cases ho
  callsBounded := fun c hc => by
    obtain hold | hnew := List.mem_append.1 hc
    · exact h.callsBounded c hold
    · rw [List.mem_singleton.1 hnew]
      trivial

/-- Any other bus event keeps the invariant: it has no outcome (R202). -/
theorem State.Inv.busOther (h : s.Inv) : (busOther s).Inv :=
  ⟨h.sized, h.configLegal, h.configuredAfterAck, fun o ho => (by cases ho), h.callsBounded⟩

/-- Settles O45: the four things a step can do each keep the invariant. -/
theorem everyStepKeepsTheInvariant : Obligations.EveryStepKeepsTheInvariant := by
  intro s t h hstep
  obtain ⟨-, rfl⟩ | ⟨input, rest, w0, w1, -, -, hexec⟩ | ⟨input, rest, aux, -, -, rfl⟩ |
    ⟨input, rest, aux, -, -, rfl⟩ := step_cases hstep
  · exact h
  · obtain rfl := eq_effect_apply hexec
    exact (h.takeInput input rest).effect_apply _
  · exact (h.takeInput input rest).busReset
  · exact (h.takeInput input rest).busOther

/-- Settles O46: the registers have their form at reset, and nothing has been observed. -/
theorem resetMeetsTheInvariant : Obligations.ResetMeetsTheInvariant where
  sized := State.reset_sized
  configLegal := .inl rfl
  configuredAfterAck := fun hone => absurd hone (by decide)
  outcomePaired := fun o ho => by cases ho
  callsBounded := fun c hc => by cases hc

end Sys2Proof.Machine
end

section
/-! Frames (10_state.md R21) and the precision of rejects (60_exceptions.md section 2): which fields a request keeps is
read off its effect and off the ways it can end. -/

namespace Sys2Proof.Machine

variable {i : Instr} {s : State} {e : Effect}

/-- Every request but VENDOR_WRITE keeps `RXLEN` (R26). -/
theorem Ending.rxlen_eq (h : Ending i s e) (hi : ∀ v ix l, i ≠ .vendorWrite v ix l) : e.rxlen = s.rxlen := by
  cases h with
  | received v ix l _ _ heq => exact absurd heq (hi v ix l)
  | receiveFailed v ix l _ _ heq => exact absurd heq (hi v ix l)
  | _ => rfl

/-- A reject for another cause than the transport leaves the registers as they were (60_exceptions.md section 2). -/
theorem Ending.apply_of_precise (h : Ending i s e) {c : RejectCause} (hr : e.result = .reject c)
    (hc : c ≠ .transport) : e.apply s = { s with trace := s.trace ++ e.calls, outcome := some e.result } := by
  cases h with
  | rejected => rfl
  | sendFailed => exact absurd (SetupOutcome.reject.inj hr).symm hc
  | ackFailed => exact absurd (SetupOutcome.reject.inj hr).symm hc
  | receiveFailed => exact absurd (SetupOutcome.reject.inj hr).symm hc
  | _ => cases hr

/-- A send leaves the buffer as it was staged and keeps every other register, sent or not. -/
theorem sendEffect_apply (before : List EnvCall) (buf bytes : List Byte) (s : State) :
    (sendEffect before buf bytes s).apply s =
      { s with ep0buf := buf, trace := s.trace ++ (sendEffect before buf bytes s).calls,
               outcome := some (sendEffect before buf bytes s).result } := by
  simp [Effect.apply]

/-- The status byte as a choice of two values (20_memory.md R71). -/
theorem zextBool_eq (b : Bool) : zextBool b = if b then 1 else 0 := rfl

/-- SET_CONFIGURATION rejects only with a failed acknowledge, after both its other calls, and then writes nothing
(43_configuration.md R173). -/
theorem setConfigurationEffect_of_reject {c : RejectCause} (h : (setConfigurationEffect s).result = .reject c) :
    setConfigurationEffect s = ⟨s.ep0buf, s.config, s.rxlen,
      [.disableLowPower, .notifyApplicationStart, .acknowledge .fail, .reject], .reject .transport⟩ := by
  cases hack : s.answers.ack with
  | ok => simp [setConfigurationEffect, hack] at h
  | fail => simp [setConfigurationEffect, hack, rejectEffect]

/-- Settles O35: a request that writes nothing adds its calls and its result to the state, and no more. -/
theorem frameOfRequestsThatWriteNothing : Obligations.FrameOfRequestsThatWriteNothing := by
  intro i s t hw h
  obtain rfl := eq_effect_apply h
  exact ⟨effect_apply_of_writesNothing i s hw, _, rfl⟩

/-- Settles O36: none of the four writes `CONFIG` or `RXLEN`, and they stage one or two bytes. -/
theorem frameOfStatusReplies : Obligations.FrameOfStatusReplies := by
  intro i v ix l s t hi h
  obtain rfl := eq_effect_apply h
  obtain ⟨hlength, htail⟩ := (effect_ending i s).keepsTail
  have hkinds : i.stagedBytes s.params ≤ 2 ∧ (∀ ix l, i ≠ .setConfiguration ix l) ∧
      ∀ v ix l, i ≠ .vendorWrite v ix l := by
    simp only [List.mem_cons, List.not_mem_nil, or_false] at hi
    obtain rfl | rfl | rfl | rfl := hi <;> simp [Instr.stagedBytes]
  obtain ⟨hstaged, hconf, hwrite⟩ := hkinds
  refine ⟨?_, hlength, fun k hk => htail k (hstaged.trans hk), ?_⟩
  · simp [Effect.apply, effect_config_of_ne_setConfiguration i s hconf, (effect_ending i s).rxlen_eq hwrite]
  · rintro rfl
    exact htail 1 Nat.le.refl

/-- Settles O37: `CONFIG` is written after an acknowledge that succeeds, to 1, and nothing else ever is. -/
theorem frameOfSetConfiguration : Obligations.FrameOfSetConfiguration := by
  intro ix l s t h
  have ht : t = setConfiguration s := (Host.Outcome.next.inj h).symm
  cases hack : s.answers.ack with
  | ok =>
    rw [ht, setConfiguration_ok s hack]
    exact ⟨rfl, fun _ => ⟨rfl, rfl⟩⟩
  | fail =>
    rw [ht, setConfiguration_fail s hack]
    exact ⟨rfl, fun hne => absurd rfl hne⟩

/-- Settles O38: VENDOR_WRITE keeps `CONFIG`, and the registers beyond the bytes it may store. -/
theorem frameOfVendorWrite : Obligations.FrameOfVendorWrite := by
  intro v ix l s t h
  obtain rfl := eq_effect_apply h
  obtain ⟨hlength, htail⟩ := (effect_ending (.vendorWrite v ix l) s).keepsTail
  refine ⟨?_, hlength, htail⟩
  simp [Effect.apply, effect_config_of_ne_setConfiguration (.vendorWrite v ix l) s (by simp)]

/-- Settles O42: the precise causes by the ways a request can end, the transport's row by row. -/
theorem rejectsArePreciseButForTransport : Obligations.RejectsArePreciseButForTransport := by
  intro i s t c h hc
  obtain rfl := eq_effect_apply h
  have hresult : (effect i s).result = .reject c := Option.some.inj hc
  refine ⟨(effect_ending i s).apply_of_precise hresult,
    fun _ => ⟨effect_apply_of_writesNothing i s, ?_, ?_, ?_, ?_, ?_⟩⟩
  · rintro v ix l rfl
    exact sendEffect_apply _ _ _ s
  · rintro v ix l (rfl | rfl)
    · exact sendEffect_apply _ _ _ s
    · exact sendEffect_apply _ _ _ s
  · rintro v ix l rfl
    rw [← zextBool_eq]
    exact sendEffect_apply _ _ _ s
  · rintro ix l rfl
    have heffect : effect (.setConfiguration ix l) s = _ := setConfigurationEffect_of_reject hresult
    rw [heffect]
    exact ⟨by simp, by simp, rfl⟩
  · rintro v ix l rfl
    obtain ⟨hframe, -, htail⟩ := frameOfVendorWrite v ix l s _ h
    exact ⟨htail, hframe⟩

end Sys2Proof.Machine
end

section
/-! What no request reads (10_state.md R26; 42_dispatcher.md section 1). `RXLEN` is read by none and `CONFIG` by
GET_CONFIGURATION alone: in a state that differs in them, a request does what it does, and they pass through it unless
it writes them. -/

namespace Sys2Proof.Machine

variable (s : State) (c : Byte) (r : Nat)

theorem sendEffect_with_registers (before : List EnvCall) (buf bytes : List Byte) :
    sendEffect before buf bytes { s with config := c, rxlen := r } =
      { sendEffect before buf bytes s with config := c, rxlen := r } := by
  cases h : s.answers.send <;> simp [sendEffect, h]

theorem lookupEffect_with_registers (before : List EnvCall) (found : Option Slot) (wLength : Half) :
    lookupEffect before found wLength { s with config := c, rxlen := r } =
      { lookupEffect before found wLength s with config := c, rxlen := r } := by
  cases found with
  | none => rfl
  | some slot => exact sendEffect_with_registers s c r before s.ep0buf _

/-- A request that writes neither register, nor sends `CONFIG`, does the same whatever they hold. -/
theorem effect_with_registers (i : Instr) (hget : ∀ v ix l, i ≠ .getConfiguration v ix l)
    (hset : ∀ ix l, i ≠ .setConfiguration ix l) (hwrite : ∀ v ix l, i ≠ .vendorWrite v ix l) :
    effect i { s with config := c, rxlen := r } = { effect i s with config := c, rxlen := r } := by
  cases i with
  | getDescriptorDevice => exact lookupEffect_with_registers s c r _ _ _
  | getDescriptorConfiguration => exact lookupEffect_with_registers s c r _ _ _
  | getDescriptorString => exact lookupEffect_with_registers s c r _ _ _
  | getDescriptorBos => exact lookupEffect_with_registers s c r _ _ _
  | getDescriptorOther => exact lookupEffect_with_registers s c r _ _ _
  | getConfiguration v ix l => exact absurd rfl (hget v ix l)
  | getStatusDev => exact sendEffect_with_registers s c r _ _ _
  | getStatusIf => exact sendEffect_with_registers s c r _ _ _
  | getStatusEp => exact sendEffect_with_registers s c r _ _ _
  | setConfiguration ix l => exact absurd rfl (hset ix l)
  | msCompatId => exact lookupEffect_with_registers s c r _ _ _
  | msExtProps => exact lookupEffect_with_registers s c r _ _ _
  | vendorRead => exact sendEffect_with_registers s c r _ _ _
  | vendorWrite v ix l => exact absurd rfl (hwrite v ix l)
  | _ => rfl

/-- VENDOR_WRITE stores and records the same whatever the two registers hold, and keeps `CONFIG`. -/
theorem vendorWriteEffect_with_registers (wLength : Half) :
    vendorWriteEffect wLength { s with config := c, rxlen := r } =
      { vendorWriteEffect wLength s with config := c } := by
  cases h : s.answers.receive <;> simp [vendorWriteEffect, h, spoilWindow, State.writeEp0, State.setRxlen]

/-- SET_CONFIGURATION from any value of `CONFIG`: 1 when acknowledged, else the value it was (R24). -/
theorem setConfigurationEffect_with_config : setConfigurationEffect { s with config := c } =
    { setConfigurationEffect s with config := if s.answers.ack = .ok then 1 else c } := by
  cases h : s.answers.ack <;> simp [setConfigurationEffect, h, rejectEffect]

/-- SET_CONFIGURATION passes `RXLEN` through. -/
theorem setConfigurationEffect_with_rxlen : setConfigurationEffect { s with rxlen := r } =
    { setConfigurationEffect s with rxlen := r } := by
  cases h : s.answers.ack <;> simp [setConfigurationEffect, h, rejectEffect]

/-- A request leaves some `RXLEN`, and all else it does is the same whatever `RXLEN` held (10_state.md section 5). -/
theorem effect_with_rxlen (i : Instr) :
    ∃ r', effect i { s with rxlen := r } = { effect i s with rxlen := r' } := by
  by_cases hset : ∃ ix l, i = .setConfiguration ix l
  · obtain ⟨ix, l, rfl⟩ := hset
    exact ⟨r, setConfigurationEffect_with_rxlen s r⟩
  have hkept := effect_config_of_ne_setConfiguration i s fun ix l h => hset ⟨ix, l, h⟩
  suffices hsame : ∃ r', effect i { s with rxlen := r } = { effect i s with config := s.config, rxlen := r' } by
    obtain ⟨r', h⟩ := hsame
    exact ⟨r', by rw [h, ← hkept]⟩
  by_cases hget : ∃ v ix l, i = .getConfiguration v ix l
  · obtain ⟨v, ix, l, rfl⟩ := hget
    exact ⟨r, sendEffect_with_registers s s.config r _ _ _⟩
  by_cases hwrite : ∃ v ix l, i = .vendorWrite v ix l
  · obtain ⟨v, ix, l, rfl⟩ := hwrite
    exact ⟨_, vendorWriteEffect_with_registers s s.config r l⟩
  exact ⟨r, effect_with_registers s s.config r i (fun v ix l h => hget ⟨v, ix, l, h⟩)
    (fun ix l h => hset ⟨ix, l, h⟩) (fun v ix l h => hwrite ⟨v, ix, l, h⟩)⟩

end Sys2Proof.Machine

namespace Sys2Proof.Machine

/-- Settles O44: SET_CONFIGURATION and VENDOR_WRITE each by its own effect, every other request because it neither
reads nor writes `CONFIG`. -/
theorem configGatesNoRequest : Obligations.ConfigGatesNoRequest := by
  intro i s t c hget h
  obtain rfl := eq_effect_apply h
  rw [exec_eq_effect]
  by_cases hset : ∃ ix l, i = .setConfiguration ix l
  · obtain ⟨ix, l, rfl⟩ := hset
    simp only [effect, setConfigurationEffect_with_config, Effect.apply]
    simp
  have hwith : effect i { s with config := c } = { effect i s with config := c } := by
    by_cases hwrite : ∃ v ix l, i = .vendorWrite v ix l
    · obtain ⟨v, ix, l, rfl⟩ := hwrite
      exact vendorWriteEffect_with_registers s c s.rxlen l
    · have hrxlen := (effect_ending i s).rxlen_eq fun v ix l h => hwrite ⟨v, ix, l, h⟩
      refine (effect_with_registers s c s.rxlen i hget (fun ix l h => hset ⟨ix, l, h⟩)
        fun v ix l h => hwrite ⟨v, ix, l, h⟩).trans ?_
      rw [← hrxlen]
  rw [hwith, if_neg fun hack => hset hack.1]
  rfl

end Sys2Proof.Machine
end

section
/-! Steps and runs (10_state.md section 3): what a step does by the event that is next, and what follows over runs. -/

namespace Sys2Proof.Machine

/-- With no event left a step is idle. -/
theorem step_of_pending_nil {s : State} (hp : s.pending = []) : step s = .next s := by
  rw [step, hp]

/-- When a setup packet is next, a step takes it off the list and serves the request it decodes to (42_dispatcher.md
R140). -/
theorem step_of_pending_setup {s : State} {w0 w1 : Word} {a : Answers} {rest : List Input}
    (hp : s.pending = ⟨.setup w0 w1, a⟩ :: rest) :
    step s = exec (decodeWords s.params w0 w1) (s.takeInput ⟨.setup w0 w1, a⟩ rest) := by
  rw [step, hp]
  rfl

/-- Settles O9: the step serves the packet in the state that has taken it. -/
theorem stepRunsTheDecodedRequest : Obligations.StepRunsTheDecodedRequest := by
  rintro s w0 w1 a rest i hp rfl
  exact step_of_pending_setup hp

/-- Settles O10: with an empty list a step is idle. -/
theorem stepWithoutEventIsIdle : Obligations.StepWithoutEventIsIdle := fun _ => step_of_pending_nil

/-- Settles O48: a step completes and takes one event, if there is one; so do `k` of them, one after the other. -/
theorem everyRunCompletes : Obligations.EveryRunCompletes := by
  intro k
  induction k with
  | zero => exact fun s => ⟨s, rfl, rfl, by simp, rfl, rfl⟩
  | succ k ih =>
    intro s
    obtain ⟨u, hu, hpending, hindex, hrom, hparams⟩ := step_next s
    obtain ⟨t, ht, hpending', hindex', hrom', hparams'⟩ := ih u
    refine ⟨t, (run_succ k hu).trans ht, ?_, ?_, hrom'.trans hrom, hparams'.trans hparams⟩
    · rw [hpending', hpending, List.drop_drop, Nat.add_comm]
    · rw [hindex', hindex, hpending, List.length_drop]
      omega

/-- A run keeps the descriptor table and the parameters (20_memory.md R52). -/
theorem run_keeps_tables {k : Nat} {s t : State} (h : core.run k s = .next t) :
    t.rom = s.rom ∧ t.params = s.params := by
  obtain ⟨u, hu, -, -, hrom, hparams⟩ := everyRunCompletes k s
  obtain rfl := Host.Outcome.next.inj (h.symm.trans hu)
  exact ⟨hrom, hparams⟩

/-- A step leaves some `RXLEN`, and all else it does is the same whatever `RXLEN` held. -/
theorem step_with_rxlen {s t : State} (h : step s = .next t) (r : Nat) :
    ∃ r', step { s with rxlen := r } = .next { t with rxlen := r' } := by
  obtain ⟨hp, rfl⟩ | ⟨⟨event, a⟩, rest, w0, w1, hp, rfl, hexec⟩ | ⟨⟨event, a⟩, rest, aux, hp, rfl, rfl⟩ |
    ⟨⟨event, a⟩, rest, aux, hp, rfl, rfl⟩ := step_cases h
  · exact ⟨r, step_of_pending_nil (s := { t with rxlen := r }) hp⟩
  · obtain rfl := eq_effect_apply hexec
    obtain ⟨r', heffect⟩ :=
      effect_with_rxlen (s.takeInput ⟨.setup w0 w1, a⟩ rest) r (decodeWords s.params w0 w1)
    refine ⟨r', (step_of_pending_setup (s := { s with rxlen := r }) hp).trans ((exec_eq_effect _ _).trans ?_)⟩
    exact congrArg (fun e : Effect => Host.Outcome.next (e.apply (s.takeInput ⟨.setup w0 w1, a⟩ rest))) heffect
  · exact ⟨r, step_of_pending_bus (s := { s with rxlen := r }) hp⟩
  · exact ⟨r, step_of_pending_bus (s := { s with rxlen := r }) hp⟩

/-- Settles O49: step by step the two runs differ in `RXLEN` alone. -/
theorem rxlenIsNeverObservable : Obligations.RxlenIsNeverObservable := by
  intro k
  induction k with
  | zero =>
    rintro s t r h
    obtain rfl := run_zero_eq h
    exact ⟨r, rfl⟩
  | succ k ih =>
    intro s t r h
    obtain ⟨u, hu, -⟩ := step_next s
    obtain ⟨r1, hu'⟩ := step_with_rxlen hu r
    rw [run_succ k hu] at h
    rw [run_succ k hu']
    exact ih u t r1 h

end Sys2Proof.Machine
end

section
/-! Reset, the packing of fields, and the descriptor table's layout. -/

namespace Sys2Proof

/-- The sum of a first byte's three fields (30_encoding.md R98). -/
theorem bmRequestType_toNat (r : SetupRequest) :
    r.bmRequestType.toNat = 128 * r.dir.toNat + 32 * r.type.toNat + r.target.toNat := by
  have := r.dir.isLt
  have := r.type.isLt
  have := r.target.isLt
  simp only [SetupRequest.bmRequestType, BitVec.toNat_ofNat]
  omega

/-- Encoded fields decode to the request they are the fields of. -/
theorem decodeSetup_encodeFields_eq_requestOf (bm rq : Byte) (v i l : Half) :
    decodeSetup (encodeFields bm rq v i l).1 (encodeFields bm rq v i l).2 = requestOf bm rq v i l :=
  decodeSetup_encodeFields bm rq v i l

/-- Settles O3: the sums are those of the packing, and each round trip is a law of the packing. -/
theorem encodingInvertsDecoding : Obligations.EncodingInvertsDecoding := by
  refine ⟨fun bm rq v i l => ?_, bmRequestType_toNat, encodeFields_decodeSetup⟩
  rw [decodeSetup_encodeFields_eq_requestOf]
  exact ⟨encodeFields_fst_toNat bm rq v i l, encodeFields_snd_toNat bm rq v i l, requestOf_bmRequestType bm rq v i l,
    rfl, rfl, rfl, rfl⟩

/-- Settles O8: each word is evaluated. -/
theorem sampleWordsDecode : Obligations.SampleWordsDecode := by
  unfold Obligations.SampleWordsDecode
  decide

end Sys2Proof

namespace Sys2Proof.Machine

/-- Settles O1: the fields of the reset state. -/
theorem resetLeavesDeviceUnconfigured : Obligations.ResetLeavesDeviceUnconfigured :=
  ⟨State.reset_config, State.reset_pending, State.reset_eventIndex, State.reset_trace, State.reset_outcome⟩

/-- Settles O52: the parameters at reset are `Config.params`, field by field. -/
theorem resetTakesTheHardwaresParameters : Obligations.ResetTakesTheHardwaresParameters :=
  congrArg Params.toParamTable State.reset_params

/-- A blob that is a single descriptor states its length in its first byte (41_descriptor_store.md R123). -/
theorem declLen_of_single {slot : Slot} (h : slot.kind = .single) (b : Blob) : declLen slot b = (b.getD 0 0).toNat := by
  rw [declLen, h]

/-- A set of descriptors states its total length in bytes 2 and 3, low byte first (R123, 20_memory.md R55). -/
theorem declLen_of_composite {slot : Slot} (h : slot.kind = .composite) (b : Blob) :
    declLen slot b = (b.getD 2 0).toNat + 256 * (b.getD 3 0).toNat := by
  rw [declLen, h]

/-- A Microsoft descriptor's length is that of what is stored (R123; decision D9). -/
theorem declLen_of_storedLength {slot : Slot} (h : slot.kind = .storedLength) (b : Blob) :
    declLen slot b = b.length := by
  rw [declLen, h]

/-- Settles O14: the slots of each list have the kind that states the length so. -/
theorem declaredLengthBySlotKind : Obligations.DeclaredLengthBySlotKind := by
  have hsingle : ∀ slot ∈ [Slot.devHs, .devSs, .strLangid, .strManufacturer, .strProduct, .strSerial, .strMsos],
      slot.kind = .single := by decide
  have hcomposite : ∀ slot ∈ [Slot.cfgHs, .cfgSs, .bos], slot.kind = .composite := by decide
  have hstored : ∀ slot ∈ [Slot.msCompatId, .msExtProps], slot.kind = .storedLength := by decide
  exact ⟨fun b slot h => declLen_of_single (hsingle slot h) b,
    fun b slot h => declLen_of_composite (hcomposite slot h) b,
    fun b slot h => declLen_of_storedLength (hstored slot h) b⟩

/-- What the layout contract says of a blob (R126, 20_memory.md R50). -/
theorem blobWf_iff (slot : Slot) (b : Blob) : blobWf slot b = true ↔
    slot.kind.minLength ≤ b.length ∧ declLen slot b ≤ b.length ∧ b.length ≤ 65535 := by
  simp only [blobWf, Bool.and_eq_true, decide_eq_true_eq, and_assoc]

/-- Settles O15: a slot of an accepted table honours the contract, whose least length depends on the kind. -/
theorem acceptedTablesAreWellFormed : Obligations.AcceptedTablesAreWellFormed := by
  intro rom slot b hb
  obtain ⟨hmin, hdecl, -⟩ := (blobWf_iff slot b).1 (rom.slot_wf slot b hb)
  refine ⟨fun hkind => ?_, fun hkind => ?_, hdecl⟩
  · rwa [hkind] at hmin
  · rwa [hkind] at hmin

/-- Every slot is in the list of all slots (R121). -/
theorem Slot.mem_all (slot : Slot) : slot ∈ Slot.all := by
  cases slot <;> decide

/-- A full table holds a blob in every slot (R121). -/
theorem FullRom.exists_slot (r : FullRom) (slot : Slot) : ∃ b, r.rom.slot slot = some b := by
  have hfull := r.full
  rw [RomData.full, List.all_eq_true] at hfull
  exact Option.isSome_iff_exists.1 (hfull slot slot.mem_all)

/-- Settles O53: the table at reset is a full one, and like every accepted table it is well formed. -/
theorem resetTableIsFull : Obligations.ResetTableIsFull := by
  intro slot
  obtain ⟨b, hb⟩ := Config.rom.exists_slot slot
  obtain ⟨hsingle, hcomposite, hdecl⟩ := acceptedTablesAreWellFormed Config.rom.rom slot b hb
  exact ⟨b, hb, hdecl, hsingle, hcomposite⟩

end Sys2Proof.Machine
end

section
/-! The requests one by one: which packets they are, and what they leave. A request that sends runs as its send; one
that serves a lookup runs as the miss or as the send of the blob found. -/

namespace Sys2Proof.Machine

variable {i : Instr} {s : State} {before : List EnvCall} {buf bytes : List Byte}

/-- A request whose effect is a send, when the transport reports it done (42_dispatcher.md R143). -/
theorem exec_of_send_ok (h : effect i s = sendEffect before buf bytes s) (hsend : s.answers.send = .ok) :
    exec i s = .next { s with ep0buf := buf, trace := s.trace ++ (before ++ [.sendResponse bytes .ok]),
                              outcome := some (.respond bytes) } := by
  rw [exec_eq_effect, h, sendEffect, hsend]
  rfl

/-- A request whose effect is a send, when the transport reports failure (R143). -/
theorem exec_of_send_fail (h : effect i s = sendEffect before buf bytes s) (hsend : s.answers.send = .fail) :
    exec i s = .next { s with ep0buf := buf, trace := s.trace ++ (before ++ [.sendResponse bytes .fail, .reject]),
                              outcome := some (.reject .transport) } := by
  rw [exec_eq_effect, h, sendEffect, hsend]
  rfl

variable {found : Option Slot} {wLength : Half}

/-- A request that serves a lookup which misses (R146, R181, R182). -/
theorem exec_of_lookup_miss (h : effect i s = lookupEffect before found wLength s) (hmiss : found = none) :
    exec i s = .next { s with trace := s.trace ++ (before ++ [.reject]), outcome := some (.reject .lookupMiss) } := by
  rw [exec_eq_effect, h, hmiss]
  rfl

/-- A request that serves a lookup which hits a filled slot sends its blob, cut (R128). -/
theorem effect_of_lookup_hit (h : effect i s = lookupEffect before found wLength s) {slot : Slot} {b : Blob}
    (hhit : found = some slot) (hb : s.rom.slot slot = some b) :
    effect i s = sendEffect before s.ep0buf (b.take (min (declLen slot b) wLength.toNat)) s := by
  rw [h, hhit, lookupEffect, trunc_eq s.rom slot b wLength hb]

/-- An empty slot is a miss (R121). -/
theorem filled_of_empty {rom : Rom} {slot : Slot} (h : rom.slot slot = none) : filled rom slot = none := by
  simp [filled, h]

/-- A slot that holds a blob is found (R121). -/
theorem filled_of_slot {rom : Rom} {slot : Slot} {b : Blob} (h : rom.slot slot = some b) :
    filled rom slot = some slot := by
  simp [filled, h]

/-! ### GET_CONFIGURATION and GET_STATUS -/

/-- A staged status reply is sent as it was composed, in a state whose registers have their form (R150 to R152). -/
theorem statusEffect_eq (hs : s.Sized) (before : List EnvCall) (stalled : Bool) (wLength : Half) :
    statusEffect before stalled wLength s = sendEffect before ((s.ep0buf.set 0 (zextBool stalled)).set 1 0)
      ([zextBool stalled, 0].take (min s.params.getStatusLen wLength.toNat)) s := by
  rw [statusEffect, staged_status_take hs]
  rfl

/-- The reply of a target that is never stalled is zeros, as many as are sent (20_memory.md R56). -/
theorem zeroReply_take (p : Params) (wLength : Half) :
    [zextBool false, 0].take (min p.getStatusLen wLength.toNat) =
      List.replicate (min p.getStatusLen wLength.toNat) 0x00 := by
  have hlen := p.getStatusLen_le
  rw [show [zextBool false, 0] = List.replicate 2 0x00 from rfl, List.take_replicate]
  congr 1
  omega

/-- Settles O23: the buffer's first register takes `CONFIG`, and what is sent is read back from it. -/
theorem getConfigurationStagesAndSendsConfig : Obligations.GetConfigurationStagesAndSendsConfig := by
  refine ⟨fun p w0 w1 hbm hrq => ?_, fun s v ix l hs => ?_⟩
  · rw [decodeWords_of_bytes w1 hbm hrq, ofFields_getConfiguration]
  · have heffect : effect (.getConfiguration v ix l) s = sendEffect [] (s.ep0buf.set 0 s.config)
        ([s.config].take (min s.params.getConfigurationLen l.toNat)) s := by
      rw [← staged_configuration_take hs]
      rfl
    exact ⟨exec_of_send_ok heffect, exec_of_send_fail heffect⟩

/-- Settles O24: the reply of a target that is never stalled. -/
theorem getStatusDeviceSendsZeros : Obligations.GetStatusDeviceSendsZeros := by
  refine ⟨fun p w0 w1 hbm hrq => ?_, fun s v ix l hs => ?_⟩
  · rw [decodeWords_of_bytes w1 hbm hrq, ofFields_getStatusDev]
  · have heffect : effect (.getStatusDev v ix l) s = _ := statusEffect_eq hs [] false l
    rw [zeroReply_take] at heffect
    exact ⟨exec_of_send_ok heffect, exec_of_send_fail heffect⟩

/-- Settles O25: the reply of a target that is never stalled, for every interface number. -/
theorem getStatusInterfaceSendsZeros : Obligations.GetStatusInterfaceSendsZeros := by
  refine ⟨fun p w0 w1 hbm hrq => ?_, fun s v ix l hs => ?_⟩
  · rw [decodeWords_of_bytes w1 hbm hrq, ofFields_getStatusIf]
  · have heffect : effect (.getStatusIf v ix l) s = _ := statusEffect_eq hs [] false l
    rw [zeroReply_take] at heffect
    exact ⟨exec_of_send_ok heffect, exec_of_send_fail heffect⟩

/-- Settles O26: the status byte is the queried answer, widened. -/
theorem getStatusEndpointSendsTheStallBit : Obligations.GetStatusEndpointSendsTheStallBit := by
  refine ⟨fun p w0 w1 hbm hrq => ?_, fun s v ix l stall hs hstall => ?_⟩
  · rw [decodeWords_of_bytes w1 hbm hrq, ofFields_getStatusEp]
  · have hbyte : stall = zextBool s.answers.stalled := by
      obtain ⟨hstalled, rfl⟩ | ⟨hstalled, rfl⟩ := hstall <;> rw [hstalled] <;> rfl
    subst hbyte
    have heffect : effect (.getStatusEp v ix l) s = _ :=
      statusEffect_eq hs [.queryEndpointStallState ix s.answers.stalled] s.answers.stalled l
    exact ⟨exec_of_send_ok heffect, exec_of_send_fail heffect⟩

/-- The two registers a status reply is staged in hold it. -/
theorem staged_getElem? (hs : s.Sized) (a b : Byte) :
    ((s.ep0buf.set 0 a).set 1 b)[0]? = some a ∧ ((s.ep0buf.set 0 a).set 1 b)[1]? = some b := by
  have hlen := hs.two_le s.params.two_le_ep0bufCap
  constructor
  · rw [List.getElem?_set_ne (by decide), List.getElem?_set_self (by omega)]
  · rw [List.getElem?_set_self (by rw [List.length_set]; omega)]

/-- Settles O51: a send, whatever its length and its answer, leaves the buffer as staged. -/
theorem statusRequestsClobberTheBuffer : Obligations.StatusRequestsClobberTheBuffer := by
  refine fun s t v ix l hs => ⟨?_, fun h => ?_, fun h => ?_⟩
  · rintro (h | h)
    all_goals
      rw [eq_effect_apply h, Effect.apply_ep0buf]
      exact sendEffect_ep0buf [] _ _ s ▸ staged_getElem? hs 0 0
  · rw [eq_effect_apply h, Effect.apply_ep0buf, ← zextBool_eq]
    exact sendEffect_ep0buf _ _ _ s ▸ staged_getElem? hs _ 0
  · have hlen := hs.two_le s.params.two_le_ep0bufCap
    have hbuf : t.ep0buf = s.ep0buf.set 0 s.config := by
      rw [eq_effect_apply h]
      exact sendEffect_ep0buf [] _ _ s
    rw [hbuf, List.getElem?_set_self (by omega)]

/-! ### SET_CONFIGURATION -/

/-- Settles O29: the row needs the whole `wValue`; the acknowledge decides between commit and reject. -/
theorem setConfigurationCommitsOnAcknowledge : Obligations.SetConfigurationCommitsOnAcknowledge := by
  refine ⟨fun p w0 w1 hbm hrq hv => ?_, fun s ix l => ⟨fun hack => ?_, fun hack => ?_⟩⟩
  · rw [decodeWords_of_bytes w1 hbm hrq, hv, ofFields_setConfiguration]
  · exact congrArg Host.Outcome.next (setConfiguration_ok s hack)
  · exact congrArg Host.Outcome.next (setConfiguration_fail s hack)

/-! ### The Microsoft requests -/

/-- A request that serves `LOOKUP_MS` alone rejects on an empty slot and sends what a filled one stores (R130, R181,
R182). -/
theorem exec_of_lookupMs {which : MsDescriptor}
    (h : effect i s = lookupEffect [] (lookupMs s.rom which) wLength s) :
    (s.rom.slot (msSlot which) = none → exec i s = .next { s with
      trace := s.trace ++ [.reject], outcome := some (.reject .lookupMiss) }) ∧
    ∀ b : Blob, s.rom.slot (msSlot which) = some b →
      (s.answers.send = .ok → exec i s = .next { s with
        trace := s.trace ++ [.sendResponse (b.take (min b.length wLength.toNat)) .ok],
        outcome := some (.respond (b.take (min b.length wLength.toNat))) }) ∧
      (s.answers.send = .fail → exec i s = .next { s with
        trace := s.trace ++ [.sendResponse (b.take (min b.length wLength.toNat)) .fail, .reject],
        outcome := some (.reject .transport) }) := by
  refine ⟨fun hempty => exec_of_lookup_miss h (filled_of_empty hempty), fun b hb => ?_⟩
  have hkind : (msSlot which).kind = .storedLength := by cases which <;> rfl
  have heffect := effect_of_lookup_hit h (filled_of_slot hb) hb
  rw [declLen_of_storedLength hkind] at heffect
  exact ⟨exec_of_send_ok heffect, exec_of_send_fail heffect⟩

/-- Settles O30: the row needs the whole `wIndex`, and serves the slot of the compatible id. -/
theorem msCompatIdSendsTheStoredBlob : Obligations.MsCompatIdSendsTheStoredBlob := by
  refine ⟨fun p w0 w1 hbm hrq hix => ?_, fun s v l => exec_of_lookupMs (which := .compatId) rfl⟩
  rw [decodeWords_of_bytes w1 hbm hrq, hix, ofFields_msCompatId]

/-- Settles O31: the row needs the whole `wIndex`, and serves the slot of the extended properties. -/
theorem msExtPropsSendsTheStoredBlob : Obligations.MsExtPropsSendsTheStoredBlob := by
  refine ⟨fun p w0 w1 hbm hrq hix => ?_, fun s v l => exec_of_lookupMs (which := .extProps) rfl⟩
  rw [decodeWords_of_bytes w1 hbm hrq, hix, ofFields_msExtProps]

/-! ### The vendor data channel -/

/-- VENDOR_READ sends the buffer's first bytes and stages none (44_vendor_channel.md R183). -/
theorem effect_vendorRead (v ix l : Half) : effect (.vendorRead v ix l) s =
    sendEffect [] s.ep0buf (s.ep0buf.take (min s.params.ep0bufCap l.toNat)) s := rfl

/-- Settles O32: the request is its send. -/
theorem vendorReadEchoesTheBuffer : Obligations.VendorReadEchoesTheBuffer := by
  refine ⟨fun p w0 w1 hbm hrq => ?_, fun s v ix l => ?_⟩
  · rw [decodeWords_of_bytes w1 hbm hrq, ofFields_vendorRead]
  · exact ⟨exec_of_send_ok (effect_vendorRead v ix l), exec_of_send_fail (effect_vendorRead v ix l)⟩

/-- VENDOR_WRITE when the receive succeeds (R184). -/
theorem exec_vendorWrite_ok (v ix l : Half) {data : List Byte} (hreceive : s.answers.receive = .ok)
    (hdata : data = s.answers.received.take (min s.params.ep0bufCap l.toNat)) :
    exec (.vendorWrite v ix l) s = .next { s with
      ep0buf := memWrite s.ep0buf 0 data, rxlen := data.length,
      trace := s.trace ++ [.receiveData (min s.params.ep0bufCap l.toNat) .ok data],
      outcome := some .acknowledge } :=
  congrArg Host.Outcome.next (vendorWrite_ok s l data hreceive hdata)

/-- What a receive delivers fits into the buffer. -/
theorem received_length_le (hs : s.Sized) (l : Half) {data : List Byte}
    (hdata : data = s.answers.received.take (min s.params.ep0bufCap l.toNat)) : data.length ≤ s.ep0buf.length := by
  rw [hdata, hs.1]
  exact (List.length_take_le _ _).trans (Nat.min_le_left _ _)

/-- Settles O33: the received bytes fit, so each is written, and no other. -/
theorem vendorWriteStoresTheReceivedBytes : Obligations.VendorWriteStoresTheReceivedBytes := by
  refine ⟨fun p w0 w1 hbm hrq => ?_, fun s v ix l data hs hreceive hdata => ?_⟩
  · rw [decodeWords_of_bytes w1 hbm hrq, ofFields_vendorWrite]
  · have hfits := received_length_le hs l hdata
    exact ⟨_, exec_vendorWrite_ok v ix l hreceive hdata,
      fun k hk => memWrite_getElem?_of_lt _ _ k (hk.trans_le hfits) hk,
      fun k hk => memWrite_getElem?_of_le _ _ k hk, rfl, rfl⟩

/-- Settles O34: the reject keeps what the failed receive left, which is confined to the window. -/
theorem failedVendorWriteRejectsAndKeepsTheTail : Obligations.FailedVendorWriteRejectsAndKeepsTheTail := by
  intro s v ix l data hreceive hdata
  have hexec : exec (.vendorWrite v ix l) s = _ := congrArg Host.Outcome.next (vendorWrite_fail s l data hreceive hdata)
  exact ⟨_, hexec, spoilWindow_length _ _ _, fun k hk => spoilWindow_getElem? _ _ _ k hk,
    spoilWindow_rxlen_le _ _ _, by simp [raiseReject_eq, spoilWindow, State.record, State.setRxlen, State.writeEp0]⟩

end Sys2Proof.Machine
end

section
/-! The echo (44_vendor_channel.md section 4): an event that stages no byte keeps the whole buffer, so what a write has
stored stands until the read. -/

namespace Sys2Proof.Machine

/-- A request that stages no byte leaves the buffer as it was (R188). -/
theorem effect_ep0buf_of_stagedBytes_zero {i : Instr} {s : State} (h : i.stagedBytes s.params = 0) :
    (effect i s).ep0buf = s.ep0buf :=
  List.ext_getElem? fun k => (effect_ending i s).keepsTail.2 k (h ▸ Nat.zero_le k)

/-- A step over an event that spares the buffer leaves it as it was (R188). -/
theorem step_ep0buf_of_spares {s t : State} {m : Input} {rest : List Input} (hp : s.pending = m :: rest)
    (hspares : m.event.sparesBuffer s.params = true) (h : step s = .next t) : t.ep0buf = s.ep0buf := by
  obtain ⟨hnil, -⟩ | ⟨input, rest', w0, w1, hcons, he, hexec⟩ | ⟨input, rest', aux, -, -, rfl⟩ |
    ⟨input, rest', aux, -, -, rfl⟩ := step_cases h
  · rw [hp] at hnil
    cases hnil
  · obtain ⟨rfl, rfl⟩ := List.cons.inj (hp.symm.trans hcons)
    obtain rfl := eq_effect_apply hexec
    rw [he] at hspares
    exact effect_ep0buf_of_stagedBytes_zero (s := s.takeInput m rest) (by simpa [Event.sparesBuffer] using hspares)
  · rfl
  · rfl

/-- A run over events that spare the buffer leaves it as it was. -/
theorem run_of_spares (mid rest : List Input) {s : State} (hp : s.pending = mid ++ rest)
    (hspares : ∀ m ∈ mid, m.event.sparesBuffer s.params = true) :
    ∃ t, core.run mid.length s = .next t ∧ t.pending = rest ∧ t.params = s.params ∧ t.ep0buf = s.ep0buf := by
  induction mid generalizing s with
  | nil => exact ⟨s, rfl, hp, rfl, rfl⟩
  | cons m mid ih =>
    obtain ⟨u, hu, hpending, -, -, hparams⟩ := step_next s
    have hbuf := step_ep0buf_of_spares hp (hspares m (.head _)) hu
    obtain ⟨t, ht, hpending', hparams', hbuf'⟩ :=
      ih (s := u) (by rw [hpending, hp]; rfl) fun m' hm' => hparams ▸ hspares m' (.tail _ hm')
    exact ⟨t, (run_succ _ hu).trans ht, hpending', hparams'.trans hparams, hbuf'.trans hbuf⟩

/-- A step over a VENDOR_WRITE that succeeds stores the data before the older bytes (R184). -/
theorem step_of_vendorWrite_ok {s : State} {w0 w1 : Word} {a : Answers} {rest : List Input} {data : List Byte}
    (hs : s.Sized) (hp : s.pending = ⟨.setup w0 w1, a⟩ :: rest) (hbm : w0.extractLsb' 0 8 = 0x41)
    (hrq : w0.extractLsb' 8 8 = s.params.vendorReqData) (hreceive : a.receive = .ok)
    (hdata : data = a.received.take (min s.params.ep0bufCap (w1.extractLsb' 16 16).toNat)) :
    ∃ t, step s = .next t ∧ t.pending = rest ∧ t.params = s.params ∧
      t.ep0buf = data ++ s.ep0buf.drop data.length := by
  have hstep := step_of_pending_setup hp
  rw [decodeWords_of_bytes w1 hbm hrq, ofFields_vendorWrite, exec_vendorWrite_ok _ _ _ hreceive hdata] at hstep
  have hfits := received_length_le (s := s.takeInput ⟨.setup w0 w1, a⟩ rest) hs _ hdata
  exact ⟨_, hstep, rfl, rfl, memWrite_eq_append _ _ hfits⟩

/-- A step over a VENDOR_READ that succeeds responds the buffer's first bytes (R183). -/
theorem step_of_vendorRead_ok {s : State} {w0 w1 : Word} {a : Answers} {rest : List Input}
    (hp : s.pending = ⟨.setup w0 w1, a⟩ :: rest) (hbm : w0.extractLsb' 0 8 = 0xC1)
    (hrq : w0.extractLsb' 8 8 = s.params.vendorReqData) (hsend : a.send = .ok) :
    ∃ t, step s = .next t ∧ t.outcome = some (.respond
      (s.ep0buf.take (min s.params.ep0bufCap (w1.extractLsb' 16 16).toNat))) := by
  have hstep := step_of_pending_setup hp
  rw [decodeWords_of_bytes w1 hbm hrq, ofFields_vendorRead, exec_of_send_ok (effect_vendorRead _ _ _) hsend] at hstep
  exact ⟨_, hstep, rfl⟩

/-- Settles O50: the write stores the data before the older bytes, the events between keep the buffer, and the read
sends its first bytes. -/
theorem vendorChannelEchoes : Obligations.VendorChannelEchoes := by
  intro s w0 w1 r0 r1 a b mid rest data hs hp hw0 hw1 hreceive hdata hspares hr0 hr1 hsend
  obtain ⟨s1, hwrite, hpending1, hparams1, hbuf1⟩ := step_of_vendorWrite_ok hs hp hw0 hw1 hreceive hdata
  obtain ⟨s2, hmid, hpending2, hparams2, hbuf2⟩ := run_of_spares mid _ hpending1 (hparams1 ▸ hspares)
  have hparams : s2.params = s.params := hparams2.trans hparams1
  obtain ⟨t, hread, houtcome⟩ := step_of_vendorRead_ok hpending2 hr0 (hparams ▸ hr1) hsend
  have hrun : core.run (mid.length + 2) s = .next t :=
    calc core.run (mid.length + 2) s = core.run (mid.length + 1) s1 := run_succ _ hwrite
      _ = core.run 1 s2 := run_add _ 1 hmid
      _ = .next t := run_succ 0 hread
  exact ⟨t, hrun, by rw [houtcome, hbuf2, hbuf1, hparams]⟩

end Sys2Proof.Machine
end

section
/-! LOOKUP (41_descriptor_store.md section 2): the class codes differ, and so do the string sub-indices, so a key names
a slot in one way only. -/

namespace Sys2Proof.Machine

variable (p : Params) (idx : Byte) (spd : Speed) (slot : Slot)

/-- Which speed gives which of the two slots of a class (R125; decision D6). -/
theorem speedSlot_eq_some_iff (high super : Slot) : speedSlot high super spd = some slot ↔
    (spd = .high ∧ slot = high) ∨ (spd = .super ∧ slot = super) := by
  cases spd <;> simp [speedSlot, eq_comm]

/-- Which sub-index gives which string slot (R124). -/
theorem stringSlot_eq_some_iff : stringSlot p idx = some slot ↔
    (idx = p.strLangidIndex ∧ slot = .strLangid) ∨ (idx = p.strManufacturerIndex ∧ slot = .strManufacturer) ∨
    (idx = p.strProductIndex ∧ slot = .strProduct) ∨ (idx = p.strSerialIndex ∧ slot = .strSerial) ∨
    (idx = p.msOsStringIndex ∧ slot = .strMsos) := by
  obtain ⟨h1, h2, h3, h4, h5, h6, h7, h8, h9, h10⟩ := p.stringIndices_distinct
  unfold stringSlot
  split_ifs with hLangid hManufacturer hProduct hSerial hMsos
  · simp [hLangid, h1, h2, h3, h4, eq_comm]
  · simp [hManufacturer, h1.symm, h5, h6, h7, eq_comm]
  · simp [hProduct, h2.symm, h5.symm, h8, h9, eq_comm]
  · simp [hSerial, h3.symm, h6.symm, h8.symm, h10, eq_comm]
  · simp [hMsos, h4.symm, h7.symm, h9.symm, h10.symm, eq_comm]
  · simp [hLangid, hManufacturer, hProduct, hSerial, hMsos]

/-! ### The slot a key names, class by class -/

theorem keySlot_device : keySlot p p.dtDevice idx spd =
    if idx = 0 ∨ p.subindexStrict = false then speedSlot .devHs .devSs spd else none := by
  obtain ⟨hConfiguration, hString, hBos, -⟩ := p.classCodes_distinct
  simp [keySlot, hConfiguration, hString, hBos]

theorem keySlot_configuration : keySlot p p.dtConfiguration idx spd =
    if idx = 0 ∨ p.subindexStrict = false then speedSlot .cfgHs .cfgSs spd else none := by
  obtain ⟨hDevice, -, -, hString, hBos, -⟩ := p.classCodes_distinct
  simp [keySlot, hDevice.symm, hString, hBos]

theorem keySlot_bos : keySlot p p.dtBos idx spd =
    if idx = 0 ∨ p.subindexStrict = false then some .bos else none := by
  obtain ⟨-, -, hDevice, -, hConfiguration, hString⟩ := p.classCodes_distinct
  simp [keySlot, hDevice.symm, hConfiguration.symm, hString.symm]

theorem keySlot_string : keySlot p p.dtString idx spd = stringSlot p idx := by
  obtain ⟨-, hDevice, -, hConfiguration, -, hBos⟩ := p.classCodes_distinct
  simp [keySlot, hDevice.symm, hConfiguration.symm, hBos]

theorem keySlot_other {cls : Byte} (hDevice : cls ≠ p.dtDevice) (hConfiguration : cls ≠ p.dtConfiguration)
    (hString : cls ≠ p.dtString) (hBos : cls ≠ p.dtBos) : keySlot p cls idx spd = none := by
  simp [keySlot, hDevice, hConfiguration, hString, hBos]

/-- The keys that name a slot (R124). -/
theorem keySlot_eq_some_iff (cls : Byte) : keySlot p cls idx spd = some slot ↔
    (cls = p.dtDevice ∧ (idx = 0 ∨ p.subindexStrict = false) ∧
      ((spd = .high ∧ slot = .devHs) ∨ (spd = .super ∧ slot = .devSs))) ∨
    (cls = p.dtConfiguration ∧ (idx = 0 ∨ p.subindexStrict = false) ∧
      ((spd = .high ∧ slot = .cfgHs) ∨ (spd = .super ∧ slot = .cfgSs))) ∨
    (cls = p.dtBos ∧ (idx = 0 ∨ p.subindexStrict = false) ∧ slot = .bos) ∨
    (cls = p.dtString ∧
      ((idx = p.strLangidIndex ∧ slot = .strLangid) ∨ (idx = p.strManufacturerIndex ∧ slot = .strManufacturer) ∨
        (idx = p.strProductIndex ∧ slot = .strProduct) ∨ (idx = p.strSerialIndex ∧ slot = .strSerial) ∨
        (idx = p.msOsStringIndex ∧ slot = .strMsos))) := by
  obtain ⟨hDevConf, hDevStr, hDevBos, hConfStr, hConfBos, hStrBos⟩ := p.classCodes_distinct
  rw [← stringSlot_eq_some_iff, ← speedSlot_eq_some_iff, ← speedSlot_eq_some_iff]
  by_cases hDevice : cls = p.dtDevice
  · subst hDevice
    simp [keySlot_device, hDevConf, hDevStr, hDevBos]
  by_cases hConfiguration : cls = p.dtConfiguration
  · subst hConfiguration
    simp [keySlot_configuration, hDevConf.symm, hConfStr, hConfBos]
  by_cases hBos : cls = p.dtBos
  · subst hBos
    rw [keySlot_bos]
    simp [hDevBos.symm, hConfBos.symm, hStrBos.symm, eq_comm (a := Slot.bos)]
  by_cases hString : cls = p.dtString
  · subst hString
    simp [keySlot_string, hDevStr.symm, hConfStr.symm, hStrBos]
  · simp [keySlot_other p idx spd hDevice hConfiguration hString hBos, hDevice, hConfiguration, hBos, hString]

/-- A key that names no slot misses. -/
theorem lookup_of_keySlot_none {p : Params} {idx : Byte} {spd : Speed} (rom : Rom) {cls : Byte}
    (h : keySlot p cls idx spd = none) : lookup p rom cls idx spd = none := by
  rw [lookup, h]
  rfl

/-- A key that names a slot which holds a blob hits it. -/
theorem lookup_of_keySlot_some {p : Params} {idx : Byte} {spd : Speed} {slot : Slot} {rom : Rom} {cls : Byte} {b : Blob}
    (h : keySlot p cls idx spd = some slot) (hb : rom.slot slot = some b) :
    lookup p rom cls idx spd = some slot :=
  (lookup_eq_some_iff p rom cls idx spd slot).2 ⟨h, by rw [hb]; rfl⟩

end Sys2Proof.Machine

namespace Sys2Proof.Machine

/-- Settles O13: a lookup hits the slot its key names, if that is filled. -/
theorem lookupHitsExactlyTheListedKeys : Obligations.LookupHitsExactlyTheListedKeys := by
  intro p rom cls idx spd slot
  rw [lookup_eq_some_iff, keySlot_eq_some_iff, and_comm]

end Sys2Proof.Machine
end

section
/-! GET_DESCRIPTOR (42_dispatcher.md R146): every row is the one effect `descriptorEffect`, with the class of the row,
so what it does is said by what the lookup answers. -/

namespace Sys2Proof.Machine

variable {i : Instr} {s : State} {cls idx : Byte} {wLength : Half}

/-- A row of GET_DESCRIPTOR whose key names no slot queries the speed and rejects (R146, R147). -/
theorem exec_of_keySlot_none (h : effect i s = descriptorEffect cls idx wLength s)
    (hkey : keySlot s.params cls idx s.answers.speed = none) : exec i s = .next { s with
      trace := s.trace ++ [.queryLinkSpeed s.answers.speed, .reject], outcome := some (.reject .lookupMiss) } :=
  exec_of_lookup_miss h (lookup_of_keySlot_none s.rom hkey)

/-- A row of GET_DESCRIPTOR whose key names a filled slot queries the speed and sends the slot's blob (R146, R147). -/
theorem exec_of_keySlot_some (h : effect i s = descriptorEffect cls idx wLength s) {slot : Slot} {b : Blob}
    (hkey : keySlot s.params cls idx s.answers.speed = some slot) (hb : s.rom.slot slot = some b)
    (hsend : s.answers.send = .ok) : exec i s = .next { s with
      trace := s.trace ++ [.queryLinkSpeed s.answers.speed,
        .sendResponse (b.take (min (declLen slot b) wLength.toNat)) .ok],
      outcome := some (.respond (b.take (min (declLen slot b) wLength.toNat))) } :=
  exec_of_send_ok (effect_of_lookup_hit h (lookup_of_keySlot_some hkey hb) hb) hsend

/-- The row a packet's class selects serves the packet's class and sub-index (R84, R146). -/
theorem effect_getDescriptorRow (s : State) (r : SetupRequest) : effect (getDescriptorRow s.params r) s =
    descriptorEffect (classOf r.wValue) (subIndexOf r.wValue) r.wLength s := by
  simp only [getDescriptorRow]
  split_ifs with hDevice hConfiguration hString hBos
  · rw [hDevice]; rfl
  · rw [hConfiguration]; rfl
  · rw [hString]; rfl
  · rw [hBos]; rfl
  · rfl

/-- The class byte of a packet is the high byte of its first word (R81, R84). -/
theorem classOf_highHalf (w : Word) : classOf (w.extractLsb' 16 16) = w.extractLsb' 24 8 := by
  apply BitVec.eq_of_toNat_eq
  simp only [classOf, extractLsb'_toNat]
  omega

/-- The sub-index byte of a packet is the third byte of its first word (R81, R84). -/
theorem subIndexOf_highHalf (w : Word) : subIndexOf (w.extractLsb' 16 16) = w.extractLsb' 16 8 := by
  apply BitVec.eq_of_toNat_eq
  simp only [subIndexOf, extractLsb'_toNat]
  omega

/-- Settles O16: the packet's row serves the lookup of its class and sub-index, so it misses or sends the blob found. -/
theorem getDescriptorServesTheLookup : Obligations.GetDescriptorServesTheLookup := by
  intro w0 w1 s hbm hrq
  have hsetup : handleSetup w0 w1 s =
      exec (getDescriptorRow s.params (requestOf 0x80 s.params.rqGetDescriptor (w0.extractLsb' 16 16)
        (w1.extractLsb' 0 16) (w1.extractLsb' 16 16))) s := by
    rw [handleSetup, decodeWords_of_bytes w1 hbm hrq, ofFields_getDescriptor]
  have heffect := effect_getDescriptorRow s (requestOf 0x80 s.params.rqGetDescriptor (w0.extractLsb' 16 16)
    (w1.extractLsb' 0 16) (w1.extractLsb' 16 16))
  rw [requestOf_wValue, requestOf_wLength, classOf_highHalf, subIndexOf_highHalf] at heffect
  rw [hsetup]
  refine ⟨exec_of_lookup_miss heffect, fun slot b hhit hb => ?_⟩
  have hblob := effect_of_lookup_hit heffect hhit hb
  exact ⟨exec_of_send_ok hblob, exec_of_send_fail hblob⟩

/-- Settles O17: the two slots of the class, by speed. -/
theorem deviceDescriptorIsSpeedSelected : Obligations.DeviceDescriptorIsSpeedSelected := by
  intro s idx ix l b hidx hslot hsend
  have hkey := keySlot_device s.params idx s.answers.speed
  rw [if_pos hidx] at hkey
  obtain ⟨hspeed, hb⟩ | ⟨hspeed, hb⟩ := hslot
  · exact exec_of_keySlot_some rfl (slot := .devHs) (by rw [hkey, hspeed]; rfl) hb hsend
  · exact exec_of_keySlot_some rfl (slot := .devSs) (by rw [hkey, hspeed]; rfl) hb hsend

/-- Settles O18: the two slots of the class, by speed. -/
theorem configurationDescriptorIsSpeedSelected : Obligations.ConfigurationDescriptorIsSpeedSelected := by
  intro s idx ix l b hidx hslot hsend
  have hkey := keySlot_configuration s.params idx s.answers.speed
  rw [if_pos hidx] at hkey
  obtain ⟨hspeed, hb⟩ | ⟨hspeed, hb⟩ := hslot
  · exact exec_of_keySlot_some rfl (slot := .cfgHs) (by rw [hkey, hspeed]; rfl) hb hsend
  · exact exec_of_keySlot_some rfl (slot := .cfgSs) (by rw [hkey, hspeed]; rfl) hb hsend

/-- Settles O19: the class has one slot for every speed. -/
theorem bosDescriptorIsSpeedIndependent : Obligations.BosDescriptorIsSpeedIndependent := by
  intro s idx ix l b hidx hb hsend
  have hkey := keySlot_bos s.params idx s.answers.speed
  rw [if_pos hidx] at hkey
  exact exec_of_keySlot_some rfl hkey hb hsend

/-- Settles O20: a listed sub-index names its string slot at every speed, and every string slot states its length in its
first byte. -/
theorem stringDescriptorsIgnoreSpeedAndLanguage : Obligations.StringDescriptorsIgnoreSpeedAndLanguage := by
  intro s idx slot ix l b hlisted hb hsend
  simp only [List.mem_cons, Prod.mk.injEq, List.not_mem_nil, or_false] at hlisted
  have hkey := (stringSlot_eq_some_iff s.params idx slot).2 hlisted
  rw [← keySlot_string s.params idx s.answers.speed] at hkey
  have hkind : slot.kind = .single := by
    obtain ⟨-, rfl⟩ | ⟨-, rfl⟩ | ⟨-, rfl⟩ | ⟨-, rfl⟩ | ⟨-, rfl⟩ := hlisted <;> rfl
  rw [← declLen_of_single hkind]
  exact exec_of_keySlot_some rfl hkey hb hsend

/-- Settles O21: the class names no slot. -/
theorem otherDescriptorClassesMiss : Obligations.OtherDescriptorClassesMiss := by
  intro s cls idx ix l hDevice hConfiguration hString hBos
  exact exec_of_keySlot_none rfl (keySlot_other s.params idx s.answers.speed hDevice hConfiguration hString hBos)

/-- A sub-index that is not listed names no string slot (R124). -/
theorem stringSlot_of_not_listed {p : Params} {idx : Byte} (h : idx ∉ [p.strLangidIndex, p.strManufacturerIndex,
    p.strProductIndex, p.strSerialIndex, p.msOsStringIndex]) : stringSlot p idx = none := by
  simp only [List.mem_cons, List.not_mem_nil, or_false, not_or] at h
  obtain ⟨hLangid, hManufacturer, hProduct, hSerial, hMsos⟩ := h
  simp [stringSlot, hLangid, hManufacturer, hProduct, hSerial, hMsos]

/-- A sub-index other than 0 is refused where `SUBINDEX_STRICT` is true (R127). -/
theorem subIndex_refused {p : Params} {idx : Byte} (hidx : idx ≠ 0) (hstrict : p.subindexStrict = true) :
    ¬(idx = 0 ∨ p.subindexStrict = false) := by
  rintro (hzero | hlax)
  · exact hidx hzero
  · exact absurd (hstrict.symm.trans hlax) (by decide)

/-- A class with a slot for each known speed names none at speed Unknown, nor at a refused sub-index (R125, R127). -/
theorem speedSlot_ite_eq_none {p : Params} {idx : Byte} {spd : Speed} (high super : Slot)
    (h : spd = .unknown ∨ idx ≠ 0 ∧ p.subindexStrict = true) :
    (if idx = 0 ∨ p.subindexStrict = false then speedSlot high super spd else none) = none := by
  obtain rfl | ⟨hidx, hstrict⟩ := h
  · exact ite_self none
  · exact if_neg (subIndex_refused hidx hstrict)

/-- Settles O22: each of the four keys names no slot. -/
theorem unknownKeysAreRejected : Obligations.UnknownKeysAreRejected := by
  intro s idx ix l i h
  obtain ⟨rfl | rfl, hmiss⟩ | ⟨rfl, hidx, hstrict⟩ | ⟨rfl, hlisted⟩ := h
  · exact exec_of_keySlot_none rfl ((keySlot_device ..).trans (speedSlot_ite_eq_none _ _ hmiss))
  · exact exec_of_keySlot_none rfl ((keySlot_configuration ..).trans (speedSlot_ite_eq_none _ _ hmiss))
  · exact exec_of_keySlot_none rfl ((keySlot_bos ..).trans (if_neg (subIndex_refused hidx hstrict)))
  · exact exec_of_keySlot_none rfl ((keySlot_string ..).trans (stringSlot_of_not_listed hlisted))

/-! ### Repetition after a run -/

/-- How a send ends depends on the bytes and on the transport's answer alone. -/
theorem sendEffect_result_congr {s u : State} (before before' : List EnvCall) (buf buf' bytes : List Byte)
    (hsend : u.answers.send = s.answers.send) :
    (sendEffect before buf bytes u).result = (sendEffect before' buf' bytes s).result := by
  cases h : s.answers.send <;> simp [sendEffect, hsend, h]

/-- How GET_DESCRIPTOR ends depends on the tables, the link speed and the transport's answer alone
(41_descriptor_store.md R131). -/
theorem descriptorEffect_result_congr {s u : State} (hrom : u.rom = s.rom) (hparams : u.params = s.params)
    (hspeed : u.answers.speed = s.answers.speed) (hsend : u.answers.send = s.answers.send) (cls idx : Byte)
    (wLength : Half) : (descriptorEffect cls idx wLength u).result = (descriptorEffect cls idx wLength s).result := by
  simp only [descriptorEffect, lookupEffect, hrom, hparams, hspeed]
  split
  · rfl
  · exact sendEffect_result_congr _ _ _ _ _ hsend

/-- A row of GET_DESCRIPTOR serves one class, which is fixed by the parameters (R146). -/
theorem effect_of_isGetDescriptor (h : i.isGetDescriptor = true) :
    ∃ (cls : Params → Byte) (idx : Byte) (wLength : Half), ∀ s, effect i s = descriptorEffect (cls s.params) idx wLength s := by
  cases i with
  | getDescriptorDevice idx ix l => exact ⟨fun p => p.dtDevice, idx, l, fun _ => rfl⟩
  | getDescriptorConfiguration idx ix l => exact ⟨fun p => p.dtConfiguration, idx, l, fun _ => rfl⟩
  | getDescriptorString idx ix l => exact ⟨fun p => p.dtString, idx, l, fun _ => rfl⟩
  | getDescriptorBos idx ix l => exact ⟨fun p => p.dtBos, idx, l, fun _ => rfl⟩
  | getDescriptorOther cls idx ix l => exact ⟨fun _ => cls, idx, l, fun _ => rfl⟩
  | _ => cases h

/-- Settles O54: a run keeps the tables, so the repetition's lookup answers what the first one's did. -/
theorem getDescriptorRepeatsOverAnyRun : Obligations.GetDescriptorRepeatsOverAnyRun := by
  intro k s t u v a i hi ht hrun hspeed hsend hv
  obtain rfl := eq_effect_apply ht
  obtain rfl := eq_effect_apply hv
  obtain ⟨hrom, hparams⟩ := run_keeps_tables hrun
  obtain ⟨cls, idx, wLength, heffect⟩ := effect_of_isGetDescriptor hi
  have hclass : cls u.params = cls s.params := congrArg cls hparams
  have hresult : (effect i { u with answers := a }).result = (effect i s).result := by
    rw [heffect, heffect, hclass]
    exact descriptorEffect_result_congr (s := s) (u := { u with answers := a }) hrom hparams hspeed hsend _ _ _
  exact congrArg some hresult

end Sys2Proof.Machine
end

section
/-! REJECT_DEFAULT (42_dispatcher.md section 1): the thirteen keys and guards are the thirteen rows of `listed`, read
off the packet's bytes. -/

namespace Sys2Proof

variable (p : Params)

/-- Fields are a REJECT_DEFAULT exactly when no row lists them (R86). -/
theorem ofFields_eq_rejectDefault_iff (bm rq : Byte) (v ix l : Half) :
    ofFields p bm rq v ix l = .rejectDefault bm rq v ix l ↔ ¬listed p bm rq v ix = true := by
  refine ⟨fun h => ?_, ofFields_of_not_listed p bm rq v ix l⟩
  have hwf := (ofFields_wf_encode p bm rq v ix l).1
  rw [h] at hwf
  simpa [Instr.wf] using hwf

/-- The decoder by the fields of the decoded request. -/
theorem decodeWords_eq_ofFields_decodeSetup (w0 w1 : Word) : decodeWords p w0 w1 =
    ofFields p (decodeSetup w0 w1).bmRequestType (decodeSetup w0 w1).bRequest (decodeSetup w0 w1).wValue
      (decodeSetup w0 w1).wIndex (decodeSetup w0 w1).wLength := by
  rw [bmRequestType_decodeSetup]
  exact decodeWords_eq_ofFields p w0 w1

/-- The ten keys and three guards of the dispatcher, on a key given by its two bytes (R141). -/
theorem no_row_matches_iff (bm rq : Byte) (v ix : Half) :
    (keyOf bm rq ∉ [⟨.standard, .device, .deviceToHost, p.rqGetDescriptor⟩,
        ⟨.standard, .device, .deviceToHost, p.rqGetConfiguration⟩,
        ⟨.standard, .device, .deviceToHost, p.rqGetStatus⟩,
        ⟨.standard, .interface, .deviceToHost, p.rqGetStatus⟩,
        ⟨.standard, .endpoint, .deviceToHost, p.rqGetStatus⟩,
        ⟨.standard, .device, .hostToDevice, p.rqSetFeature⟩,
        ⟨.standard, .device, .hostToDevice, p.rqSetSel⟩,
        ⟨.standard, .device, .hostToDevice, p.rqSetIsocDelay⟩,
        ⟨.vendor, .interface, .deviceToHost, p.vendorReqData⟩,
        ⟨.vendor, .interface, .hostToDevice, p.vendorReqData⟩] ∧
      ¬(keyOf bm rq = ⟨.standard, .device, .hostToDevice, p.rqSetConfiguration⟩ ∧ v = p.configValid) ∧
      ¬(keyOf bm rq = ⟨.vendor, .device, .deviceToHost, p.msVendorCode⟩ ∧ ix = p.msCompatIdIndex) ∧
      ¬(keyOf bm rq = ⟨.vendor, .interface, .deviceToHost, p.msVendorCode⟩ ∧ ix = p.msExtPropIndex)) ↔
    ¬listed p bm rq v ix = true := by
  simp only [List.mem_cons, List.not_mem_nil, or_false, keyOf_eq_iff, listed_iff, not_or, and_assoc]
  tauto

/-- SET_CONFIGURATION's code with another value than `CONFIG_VALID` is not listed (R90; decision D17). -/
theorem not_listed_setConfiguration {v : Half} (ix : Half) (hv : v ≠ p.configValid) :
    ¬listed p 0x00 p.rqSetConfiguration v ix = true := by
  obtain ⟨-, -, -, -, -, hFeature, -, hSel, hDelay, -⟩ := p.requestCodes_distinct
  simp [listed_iff, hFeature.symm, hSel.symm, hDelay.symm, hv]

end Sys2Proof

namespace Sys2Proof.Machine

/-- Settles O28: a packet is a REJECT_DEFAULT exactly when no row lists its fields, and its effect is the reject
alone. -/
theorem unmatchedRequestsReject : Obligations.UnmatchedRequestsReject := by
  refine ⟨?_, fun p w0 w1 hbm hrq hv => ?_, fun s bm rq v ix l => exec_eq_effect _ s⟩
  · rintro p w0 w1 r rfl
    rw [decodeSetup_key, no_row_matches_iff, decodeWords_eq_ofFields_decodeSetup, ofFields_eq_rejectDefault_iff]
  · rw [decodeWords_of_bytes w1 hbm hrq]
    exact ofFields_of_not_listed p _ _ _ _ _ (not_listed_setConfiguration p _ hv)

end Sys2Proof.Machine
end

section
/-! The opcode table (30_encoding.md R87). Each of its rows is a mask and the packed fields it fixes, so it selects an
encoding exactly when those fields agree; every packet is an encoding, so row and decoded instruction agree. -/

namespace Sys2Proof

/-! ### Rows by the fields they fix -/

/-- A row that fixes the first two bytes. -/
def rowOfBytes (mnemonic : String) (bm rq : Byte) : OpcodeRow :=
  ⟨mnemonic, packetOf (encodeFields bm rq 0 0 0).1 (encodeFields bm rq 0 0 0).2, packetOf 0x0000FFFF 0⟩

/-- A row that fixes the class byte as well. -/
def rowOfClass (mnemonic : String) (bm rq cls : Byte) : OpcodeRow :=
  ⟨mnemonic, packetOf (encodeFields bm rq (valueOf cls 0) 0 0).1 (encodeFields bm rq (valueOf cls 0) 0 0).2,
    packetOf 0xFF00FFFF 0⟩

/-- A row that fixes `wValue` as well. -/
def rowOfValue (mnemonic : String) (bm rq : Byte) (v : Half) : OpcodeRow :=
  ⟨mnemonic, packetOf (encodeFields bm rq v 0 0).1 (encodeFields bm rq v 0 0).2, packetOf 0xFFFFFFFF 0⟩

/-- A row that fixes `wIndex` as well. -/
def rowOfIndex (mnemonic : String) (bm rq : Byte) (ix : Half) : OpcodeRow :=
  ⟨mnemonic, packetOf (encodeFields bm rq 0 ix 0).1 (encodeFields bm rq 0 ix 0).2, packetOf 0x0000FFFF 0x0000FFFF⟩

/-- The table is the request map at the hardware's parameters (R86, R87). -/
theorem opcodeRows_eq : opcodeRows =
    [rowOfClass "GET_DESCRIPTOR.DEVICE" 0x80 Config.params.rqGetDescriptor Config.params.dtDevice,
      rowOfClass "GET_DESCRIPTOR.CONFIGURATION" 0x80 Config.params.rqGetDescriptor Config.params.dtConfiguration,
      rowOfClass "GET_DESCRIPTOR.STRING" 0x80 Config.params.rqGetDescriptor Config.params.dtString,
      rowOfClass "GET_DESCRIPTOR.BOS" 0x80 Config.params.rqGetDescriptor Config.params.dtBos,
      rowOfBytes "GET_CONFIGURATION" 0x80 Config.params.rqGetConfiguration,
      rowOfBytes "GET_STATUS.DEV" 0x80 Config.params.rqGetStatus,
      rowOfBytes "GET_STATUS.IF" 0x81 Config.params.rqGetStatus,
      rowOfBytes "GET_STATUS.EP" 0x82 Config.params.rqGetStatus,
      rowOfBytes "SET_FEATURE" 0x00 Config.params.rqSetFeature,
      rowOfBytes "SET_SEL" 0x00 Config.params.rqSetSel,
      rowOfBytes "SET_ISOC_DELAY" 0x00 Config.params.rqSetIsocDelay,
      rowOfValue "SET_CONFIGURATION" 0x00 Config.params.rqSetConfiguration Config.params.configValid,
      rowOfIndex "MS_COMPAT_ID" 0xC0 Config.params.msVendorCode Config.params.msCompatIdIndex,
      rowOfIndex "MS_EXT_PROPS" 0xC1 Config.params.msVendorCode Config.params.msExtPropIndex,
      rowOfBytes "VENDOR_READ" 0xC1 Config.params.vendorReqData,
      rowOfBytes "VENDOR_WRITE" 0x41 Config.params.vendorReqData] := by
  decide

/-- So is the row of the other classes. -/
theorem otherClassRow_eq :
    otherClassRow = rowOfBytes "GET_DESCRIPTOR.OTHER" 0x80 Config.params.rqGetDescriptor := by
  decide

/-! ### Which encodings a row selects -/

/-- Masking a packet masks its two words. -/
theorem packetOf_and (w0 w1 m0 m1 : Word) :
    packetOf w0 w1 &&& packetOf m0 m1 = packetOf (w0 &&& m0) (w1 &&& m1) := by
  rw [packetOf_eq_append, packetOf_eq_append, packetOf_eq_append]
  exact BitVec.and_append

/-- A packet's number. -/
theorem packetOf_toNat (w0 w1 : Word) : (packetOf w0 w1).toNat = w0.toNat + 4294967296 * w1.toNat := by
  have := w0.isLt
  have := w1.isLt
  simp only [packetOf, BitVec.toNat_ofNat]
  omega

/-- A packet determines its words (R81). -/
theorem packetOf_inj {v0 v1 w0 w1 : Word} : packetOf v0 v1 = packetOf w0 w1 ↔ v0 = w0 ∧ v1 = w1 := by
  have := v0.isLt
  have := w0.isLt
  simp only [← BitVec.toNat_inj, packetOf_toNat]
  omega

/-- A row selects a packet when its mask and pattern do so on both words (R87). -/
theorem selects_packetOf_iff (mnemonic : String) (q0 q1 m0 m1 w0 w1 : Word) :
    (OpcodeRow.mk mnemonic (packetOf q0 q1) (packetOf m0 m1)).selects (packetOf w0 w1) = true ↔
      w0 &&& m0 = q0 ∧ w1 &&& m1 = q1 := by
  rw [OpcodeRow.selects, beq_iff_eq, packetOf_and, packetOf_inj]

/-- The low half of a word, masked out, as a number. -/
theorem and_lowHalf_toNat (w : Word) : (w &&& 0x0000FFFF).toNat = w.toNat % 65536 := by
  rw [BitVec.toNat_and]
  exact Nat.and_two_pow_sub_one_eq_mod w.toNat 16

/-- The class byte and the low half of a word, masked out, as a number. -/
theorem and_classAndLowHalf_toNat (w : Word) :
    (w &&& 0xFF00FFFF).toNat = 16777216 * (w.toNat / 16777216) + w.toNat % 65536 := by
  have := w.isLt
  rw [and_classAndLowHalf]
  simp only [BitVec.toNat_append, extractLsb'_toNat]
  rw [← Nat.shiftLeft_add_eq_or_of_lt (b := w.toNat / 2 ^ 0 % 2 ^ 16) (by omega),
    ← Nat.shiftLeft_add_eq_or_of_lt (by simp only [BitVec.toNat_ofNat, Nat.shiftLeft_eq]; omega)]
  simp only [Nat.shiftLeft_eq, BitVec.toNat_ofNat]
  omega

/-- The mask that keeps a word. -/
theorem and_word (w : Word) : w &&& 0xFFFFFFFF = w := BitVec.and_allOnes

/-- The mask that keeps nothing. -/
theorem and_noBits (w : Word) : w &&& 0 = 0 := BitVec.and_zero

variable (name : String) (b r c bm rq : Byte) (v ix l n : Half)

@[simp] theorem rowOfBytes_mnemonic : (rowOfBytes name b r).mnemonic = name := rfl
@[simp] theorem rowOfClass_mnemonic : (rowOfClass name b r c).mnemonic = name := rfl
@[simp] theorem rowOfValue_mnemonic : (rowOfValue name b r n).mnemonic = name := rfl
@[simp] theorem rowOfIndex_mnemonic : (rowOfIndex name b r n).mnemonic = name := rfl

@[simp] theorem rowOfBytes_selects_iff : (rowOfBytes name b r).selects
      (packetOf (encodeFields bm rq v ix l).1 (encodeFields bm rq v ix l).2) = true ↔ bm = b ∧ rq = r := by
  have := b.isLt
  have := bm.isLt
  have := r.isLt
  have := rq.isLt
  rw [rowOfBytes, selects_packetOf_iff, and_noBits]
  simp only [← BitVec.toNat_inj, and_lowHalf_toNat, encodeFields_fst_toNat, encodeFields_snd_toNat]
  simp only [BitVec.ofNat_eq_ofNat, BitVec.toNat_ofNat, and_true]
  omega

@[simp] theorem rowOfClass_selects_iff : (rowOfClass name b r c).selects
      (packetOf (encodeFields bm rq v ix l).1 (encodeFields bm rq v ix l).2) = true ↔
    bm = b ∧ rq = r ∧ classOf v = c := by
  have := b.isLt
  have := bm.isLt
  have := r.isLt
  have := rq.isLt
  have := c.isLt
  have := v.isLt
  rw [rowOfClass, selects_packetOf_iff, and_noBits]
  simp only [← BitVec.toNat_inj, and_classAndLowHalf_toNat, encodeFields_fst_toNat, encodeFields_snd_toNat,
    classOf, valueOf, extractLsb'_toNat]
  simp only [BitVec.ofNat_eq_ofNat, BitVec.toNat_ofNat, and_true]
  omega

@[simp] theorem rowOfValue_selects_iff : (rowOfValue name b r n).selects
      (packetOf (encodeFields bm rq v ix l).1 (encodeFields bm rq v ix l).2) = true ↔ bm = b ∧ rq = r ∧ v = n := by
  have := b.isLt
  have := bm.isLt
  have := r.isLt
  have := rq.isLt
  have := v.isLt
  have := n.isLt
  rw [rowOfValue, selects_packetOf_iff, and_noBits, and_word]
  simp only [← BitVec.toNat_inj, encodeFields_fst_toNat, encodeFields_snd_toNat]
  simp only [BitVec.ofNat_eq_ofNat, BitVec.toNat_ofNat, and_true]
  omega

@[simp] theorem rowOfIndex_selects_iff : (rowOfIndex name b r n).selects
      (packetOf (encodeFields bm rq v ix l).1 (encodeFields bm rq v ix l).2) = true ↔ bm = b ∧ rq = r ∧ ix = n := by
  have := b.isLt
  have := bm.isLt
  have := r.isLt
  have := rq.isLt
  have := ix.isLt
  have := n.isLt
  rw [rowOfIndex, selects_packetOf_iff]
  simp only [← BitVec.toNat_inj, and_lowHalf_toNat, encodeFields_fst_toNat, encodeFields_snd_toNat]
  simp only [BitVec.ofNat_eq_ofNat, BitVec.toNat_ofNat]
  omega

/-! ### Row and instruction agree -/

/-- A row of the table selects the encoding of a well-formed instruction exactly when it is the instruction's row. -/
theorem selects_encode_iff (i : Instr) (hi : i.wf Config.params = true) : ∀ row ∈ opcodeRows,
    row.selects (packetOf (encode Config.params i).1 (encode Config.params i).2) = true ↔
      i.mnemonic = row.mnemonic := by
  rw [opcodeRows_eq]
  cases i with
  | getDescriptorOther cls idx ix l =>
    simp only [Instr.wf, knownClass, Bool.not_eq_true', Bool.or_eq_false_iff, beq_eq_false_iff_ne] at hi
    simp only [List.forall_mem_cons, encode, rowOfClass_selects_iff, classOf_valueOf, hi]
    simp [Instr.mnemonic, Config.params]
  | rejectDefault bm rq v ix l =>
    have hlisted : ¬listed Config.params bm rq v ix = true := by simpa [Instr.wf] using hi
    simp only [listed_iff, not_or] at hlisted
    have hclass : ∀ c, ¬(bm = 0x80 ∧ rq = Config.params.rqGetDescriptor ∧ classOf v = c) :=
      fun c h => hlisted.1 ⟨h.1, h.2.1⟩
    simp only [List.forall_mem_cons, encode, rowOfBytes_selects_iff, rowOfClass_selects_iff, rowOfValue_selects_iff,
      rowOfIndex_selects_iff, hclass, hlisted]
    simp [Instr.mnemonic]
  | _ => simp [encode, classOf_valueOf, Instr.mnemonic, Config.params]

/-- Every instruction has a row of the table, or is a GET_DESCRIPTOR of another class, or a REJECT_DEFAULT. -/
theorem mnemonic_cases (i : Instr) : (∃ row ∈ opcodeRows, i.mnemonic = row.mnemonic) ∨
    (i.isGetDescriptor = true ∧ i.mnemonic = otherClassRow.mnemonic) ∨
      (i.isGetDescriptor = false ∧ i.mnemonic = rejectRow.mnemonic) := by
  cases i with
  | getDescriptorOther => exact .inr (.inl ⟨rfl, rfl⟩)
  | rejectDefault => exact .inr (.inr ⟨rfl, rfl⟩)
  | _ => exact .inl (by simp [opcodeRows, Instr.mnemonic])

/-- The row of the other classes selects the encodings of all GET_DESCRIPTOR instructions. -/
theorem otherClassRow_selects_iff (i : Instr) (hi : i.wf Config.params = true) :
    otherClassRow.selects (packetOf (encode Config.params i).1 (encode Config.params i).2) = true ↔
      i.isGetDescriptor = true := by
  rw [otherClassRow_eq]
  cases i with
  | rejectDefault bm rq v ix l =>
    have hlisted : ¬listed Config.params bm rq v ix = true := by simpa [Instr.wf] using hi
    simp only [listed_iff, not_or] at hlisted
    simp only [encode, rowOfBytes_selects_iff, Instr.isGetDescriptor, hlisted]
    decide
  | _ => simp [encode, rowOfBytes_selects_iff, Instr.isGetDescriptor, Config.params]

/-- The table tried in its order gives the row of a well-formed instruction: the rows by themselves, the two rows with
priority last when no row before them selects (R87). -/
theorem tableRow_encode (i : Instr) (hi : i.wf Config.params = true) :
    (tableRow (packetOf (encode Config.params i).1 (encode Config.params i).2)).mnemonic = i.mnemonic := by
  have hrows := selects_encode_iff i hi
  have hother := otherClassRow_selects_iff i hi
  generalize packetOf (encode Config.params i).1 (encode Config.params i).2 = pkt at hrows hother
  rw [tableRow, List.find?_append]
  cases hfind : opcodeRows.find? (·.selects pkt) with
  | some row =>
    have hselects : row.selects pkt = true := by simpa using List.find?_some hfind
    exact ((hrows row (List.mem_of_find?_eq_some hfind)).1 hselects).symm
  | none =>
    have hnone : ¬∃ row ∈ opcodeRows, i.mnemonic = row.mnemonic := by
      rintro ⟨row, hrow, hm⟩
      exact List.find?_eq_none.1 hfind row hrow ((hrows row hrow).2 hm)
    obtain hrow | ⟨hget, hm⟩ | ⟨hget, hm⟩ := mnemonic_cases i
    · exact absurd hrow hnone
    · simp [hother.2 hget, hm]
    · have hrejects : otherClassRow.selects pkt = false := by simpa [hget] using hother
      simp [hrejects, hm]

/-- Every packet is the two words it is made of (R81). -/
theorem packetOf_extractLsb' (pkt : Packet) : packetOf (pkt.extractLsb' 0 32) (pkt.extractLsb' 32 32) = pkt := by
  have := pkt.isLt
  apply BitVec.eq_of_toNat_eq
  simp only [packetOf_toNat, extractLsb'_toNat]
  omega

/-- The ordinary rows have different names. -/
theorem mnemonic_injOn_opcodeRows {r1 r2 : OpcodeRow} (h1 : r1 ∈ opcodeRows) (h2 : r2 ∈ opcodeRows)
    (h : r1.mnemonic = r2.mnemonic) : r1 = r2 :=
  List.inj_on_of_nodup_map (f := OpcodeRow.mnemonic) (by decide) h1 h2 h

/-- Settles O7: every packet is the encoding of the well-formed instruction it decodes to, whose row the table selects;
two rows that select one packet are thus rows of one instruction. -/
theorem opcodeTableSelectsTheDecodedRow : Obligations.OpcodeTableSelectsTheDecodedRow := by
  have hrows : ∀ w0 w1 : Word, ∀ row ∈ opcodeRows, row.selects (packetOf w0 w1) = true ↔
      (decodeWords Config.params w0 w1).mnemonic = row.mnemonic := by
    intro w0 w1
    obtain ⟨hwf, hencode⟩ := decodeWords_wf_encode Config.params w0 w1
    simpa only [hencode] using selects_encode_iff _ hwf
  refine ⟨fun w0 w1 => ⟨hrows w0 w1, ?_⟩, fun pkt r1 hr1 r2 hr2 h1 h2 => ?_⟩
  · obtain ⟨hwf, hencode⟩ := decodeWords_wf_encode Config.params w0 w1
    simpa only [hencode] using tableRow_encode _ hwf
  · rw [← packetOf_extractLsb' pkt] at h1 h2
    exact mnemonic_injOn_opcodeRows hr1 hr2 (((hrows _ _ r1 hr1).1 h1).symm.trans ((hrows _ _ r2 hr2).1 h2))

end Sys2Proof
end
